-- ==== Sys2Proof/Word.lean ====
section
/-! DEFINITION. The byte and word types, and tables of a fixed number of rows.

The part computes in integers (00_scope.md, "Arithmetic and units"): quantities are `Nat` or `Int`; a bit vector stands
only for what travels as bytes on a line or is a checksum. -/

namespace Sys2Proof

/-- A byte on the host link or the shelf link. -/
abbrev Byte := BitVec 8

/-- A 16-bit word: a checksum. -/
abbrev Word16 := BitVec 16

/-- A table of exactly `n` rows, in index order. The manual's tables (channels, watches, points, ...) never change size. -/
structure Table (α : Type) (n : Nat) where
  rows : List α
  len : rows.length = n
deriving DecidableEq, Repr

/-- Row `i`. -/
def Table.get {α : Type} {n : Nat} (t : Table α n) (i : Fin n) : α :=
  t.rows.get (i.cast t.len.symm)

/-- The table with row `i` replaced. -/
def Table.set {α : Type} {n : Nat} (t : Table α n) (i : Fin n) (a : α) : Table α n :=
  ⟨t.rows.set i.val a, by rw [List.length_set]; exact t.len⟩

/-- The table with row `i` changed by `f`. -/
def Table.modify {α : Type} {n : Nat} (t : Table α n) (i : Fin n) (f : α → α) : Table α n :=
  t.set i (f (t.get i))

/-- Every row changed by `f`. -/
def Table.map {α β : Type} {n : Nat} (t : Table α n) (f : α → β) : Table β n :=
  ⟨t.rows.map f, by rw [List.length_map]; exact t.len⟩

/-- The table whose row `i` is `f i`. -/
def Table.ofFn {α : Type} {n : Nat} (f : Fin n → α) : Table α n :=
  ⟨List.ofFn f, List.length_ofFn⟩

/-- The table all of whose rows are `a`. -/
def Table.fill {α : Type} (n : Nat) (a : α) : Table α n :=
  ⟨List.replicate n a, List.length_replicate⟩

/-- The indices of a table, lowest first. -/
def indices (n : Nat) : List (Fin n) := List.finRange n

end Sys2Proof
end

