-- ==== Sys2Proof/Syntax.lean ====
section
/-! DEFINITION. The commands of the block: one constructor of `Instr` for each row of spec/opcode_table.json, in the
table's order, with the row's operands. -/

namespace Sys2Proof

/-- R69: the state a module gives in its reply. -/
inductive ModuleOut where
  | off | on | fault
deriving DecidableEq, Repr

/-- R69: what a module's reply carries: its state, its output current in cA, its output voltage in cV, its heatsink
temperature in 0.1 °C and its fault code. -/
structure ModuleAnswer where
  out : ModuleOut
  current : Nat
  voltage : Nat
  heatsink : Int
  code : Nat
deriving DecidableEq, Repr

/-- The blocks that act on a scan completion after the scanner's own work (R3). The manual gives no order among them
(R32, R122, example of R144): a `SCAN_COMPLETION` carries the order in which they take it
(DESIGN CHOICE, notes/assumptions/10.md). -/
inductive ScanBlock where
  /-- the alarm points fed by watch readings (R145) -/
  | points
  /-- the low-voltage disconnect stage (R124) -/
  | lvd
  /-- grid qualification (R90) -/
  | grid
  /-- the generator controller (R93, R97, R100) -/
  | engine
  /-- string accounting (R32) -/
  | strings
  /-- the charge regime (R51) -/
  | regime
  /-- the contactor arbiter's thermal tests (R122, R123) -/
  | thermal
  /-- the discharge test (R141) -/
  | test
deriving DecidableEq, Repr

/-- The blocks that count at the part's one-second timer. The manual gives no order among them
(DESIGN CHOICE, notes/assumptions/11.md). -/
inductive TickBlock where
  /-- run minutes and rot_minutes (R75) -/
  | shelf
  /-- onload and idling seconds, and the maximum run (R98, R99) -/
  | engine
  /-- the burn counts (R115) -/
  | fuel
  /-- the autonomy allowance (R163) -/
  | allowance
  /-- the equalize minutes (R65) -/
  | equalize
  /-- the clock and the exercise (R113, R118) -/
  | clock
deriving DecidableEq, Repr

/-- R19: contacts as sampled, `true` for a closed contact, in the order DI1 to DI16. -/
abbrev Contacts := Table Bool 16

/-- R166: the two strap pins as sampled, `true` for a closed strap. -/
structure Straps where
  first : Bool
  second : Bool
deriving DecidableEq, Repr

/-- The commands: what the host, the plant and the part's own timers do to the block. A host request is a good frame
of its kind, completed at the receiver, with its TAG and PAYLOAD. Indices count from 0: string 1 is 0, position 1 is
0, DI1 is 0, target T1 is 0, point 1 is 0. -/
inductive Instr where
  /-- READ IDENTITY, 0x01 (R170) -/
  | readIdentity (tag : Byte) (payload : List Byte)
  /-- READ PLANT, 0x02 (R171) -/
  | readPlant (tag : Byte) (payload : List Byte)
  /-- READ STRING, 0x03 (R45) -/
  | readString (tag : Byte) (payload : List Byte)
  /-- READ MODULE, 0x04 (R78) -/
  | readModule (tag : Byte) (payload : List Byte)
  /-- READ SOURCES, 0x05 (R170) -/
  | readSources (tag : Byte) (payload : List Byte)
  /-- READ CHANNEL, 0x06 (R15) -/
  | readChannel (tag : Byte) (payload : List Byte)
  /-- READ INPUTS, 0x07 (R22) -/
  | readInputs (tag : Byte) (payload : List Byte)
  /-- READ ALARMS, 0x08 (R157) -/
  | readAlarms (tag : Byte) (payload : List Byte)
  /-- READ LOG, 0x09 (R156) -/
  | readLog (tag : Byte) (payload : List Byte)
  /-- READ OPERATION, 0x0A (R137) -/
  | readOperation (tag : Byte) (payload : List Byte)
  /-- READ SETTING, 0x0B (R174) -/
  | readSetting (tag : Byte) (payload : List Byte)
  /-- READ LINK, 0x0C (R169) -/
  | readLink (tag : Byte) (payload : List Byte)
  /-- WRITE SETTING, 0x20 (R173) -/
  | writeSetting (tag : Byte) (payload : List Byte)
  /-- STORE SETTINGS, 0x21 (R175) -/
  | storeSettings (tag : Byte) (payload : List Byte)
  /-- SET CLOCK, 0x22 (R118) -/
  | setClock (tag : Byte) (payload : List Byte)
  /-- RELAYS ON, 0x23 (R26) -/
  | relaysOn (tag : Byte) (payload : List Byte)
  /-- RELAYS OFF, 0x24 (R26) -/
  | relaysOff (tag : Byte) (payload : List Byte)
  /-- BEGIN, 0x25 (R135) -/
  | beginRequest (tag : Byte) (payload : List Byte)
  /-- END, 0x26 (R136) -/
  | endRequest (tag : Byte) (payload : List Byte)
  /-- ACKNOWLEDGE, 0x27 (R151) -/
  | acknowledge (tag : Byte) (payload : List Byte)
  /-- CLEAR, 0x28 (R152) -/
  | clearPoints (tag : Byte) (payload : List Byte)
  /-- PROVE, 0x29 (R153) -/
  | prove (tag : Byte) (payload : List Byte)
  /-- CONTACTOR, 0x2A (R128) -/
  | contactor (tag : Byte) (payload : List Byte)
  /-- ENROL, 0x2B (R76) -/
  | enrol (tag : Byte) (payload : List Byte)
  /-- RETIRE, 0x2C (R77) -/
  | retire (tag : Byte) (payload : List Byte)
  /-- SYNC STRING, 0x2D (R44) -/
  | syncString (tag : Byte) (payload : List Byte)
  /-- RESTART, 0x2E (R172) -/
  | restartRequest (tag : Byte) (payload : List Byte)
  /-- a good frame whose kind is not in the catalogue (R168) -/
  | unknownKind (kind tag : Byte) (payload : List Byte)
  /-- a complete frame whose CRC does not match (R167) -/
  | badCrcFrame
  /-- a good frame completed while a reply is in flight and no frame is held (R167) -/
  | frameHeld (kind tag : Byte) (payload : List Byte)
  /-- a good frame completed while a reply is in flight and a frame is held (R167) -/
  | overrun (kind tag : Byte) (payload : List Byte)
  /-- the receiver's gap timer expires (R167) -/
  | receiverGapTimerExpiry
  /-- a scan completion: the raw readings of the 20 channels, and the order in which the blocks take it (R3) -/
  | scanCompletion (raw : Table Int 20) (order : List ScanBlock)
  /-- a poll cycle completion (R68) -/
  | pollCycleCompletion
  /-- a good reply from a polled position (R73) -/
  | moduleReply (position : Fin 12) (answer : ModuleAnswer)
  /-- a miss at a polled position (R73) -/
  | moduleMiss (position : Fin 12)
  /-- a module's start timer expires (R74) -/
  | startTimerExpiry (position : Fin 12)
  /-- the ramp's step timer expires (R84) -/
  | rampStep
  /-- the 10 s scheduler evaluation (R107) -/
  | schedulerEvaluation
  /-- the part's one-second timer, with the order in which the blocks take it (R75) -/
  | secondTick (order : List TickBlock)
  /-- the hourly write of the persistence record (R176) -/
  | hourlyPersistenceWrite
  /-- an input's debounced contact takes a new level (R19) -/
  | inputChange (input : Fin 16) (closed : Bool)
  /-- a target's feedback timer expires (R129) -/
  | feedbackCheckTimerExpiry (target : Fin 5)
  /-- the prestart timer expires (R95) -/
  | prestartTimerExpiry
  /-- the crank timer expires (R96) -/
  | crankTimerExpiry
  /-- the rest timer expires (R96) -/
  | restTimerExpiry
  /-- the warm-up timer expires (R97) -/
  | warmupTimerExpiry
  /-- the check window expires (R97) -/
  | checkWindowExpiry
  /-- the changeover gap timer expires (R91) -/
  | changeoverGapTimerExpiry
  /-- the exercise timer expires (R99) -/
  | exerciseTimerExpiry
  /-- the cool-down timer expires (R102) -/
  | cooldownTimerExpiry
  /-- the rundown timer expires (R102) -/
  | rundownTimerExpiry
  /-- the start lockout's retry timer expires (R104) -/
  | retryTimerExpiry
  /-- the absorb timer expires (R55) -/
  | absorbTimerExpiry
  /-- the equalize timer expires (R65) -/
  | equalizeTimerExpiry
  /-- a point's escalation timer expires (R150) -/
  | escalationTimerExpiry (point : Fin 41)
  /-- the host supervision timer expires (R160) -/
  | supervisionTimerExpiry
  /-- the test's step timer expires (R140) -/
  | testStepTimerExpiry
  /-- the test's minute timer expires (R143) -/
  | testMinuteTimerExpiry
  /-- the test's time limit expires (R141) -/
  | testTimeLimitExpiry
  /-- the store ends (R175) -/
  | storeCompletion
  /-- power-up or the reset pin, with the contacts and straps as sampled (R177) -/
  | coldRestart (contacts : Contacts) (straps : Straps)
  /-- the restart made by the RESTART request, with the contacts and straps as sampled (R178) -/
  | warmRestart (contacts : Contacts) (straps : Straps)
  /-- a byte received by the host-link receiver (R167) -/
  | byteReceived (b : Byte)
  /-- the last byte of the reply in flight is sent (R167) -/
  | replySent
  /-- a contact is sampled (R19) -/
  | contactSample (input : Fin 16) (closed : Bool)
  /-- the part loses power; `duringWrite` says that a persistence write was in progress (R176) -/
  | powerLoss (duringWrite : Bool)
deriving DecidableEq, Repr

end Sys2Proof
end

