-- ==== Sys2Proof/WellFormed.lean ====
section
/-! DEFINITION. Which commands can come at all: what the manual's frames, readings and replies can carry. -/

namespace Sys2Proof

/-- R166: LEN is 2 to 98, so a PAYLOAD has 0 to 96 bytes. -/
def payloadFits (payload : List Byte) : Bool := decide (payload.length ≤ 96)

/-- R32, R122: every block takes a scan completion once, in some order. -/
def scanOrderOk (order : List ScanBlock) : Bool :=
  decide (order.Nodup) && decide (order.length = 8)

/-- Every block takes a second tick once, in some order. -/
def tickOrderOk (order : List TickBlock) : Bool :=
  decide (order.Nodup) && decide (order.length = 6)

/-- R69, R179: what fits the fields of a shelf reply; the fault code is 0, or 1 to 253. -/
def answerOk (a : ModuleAnswer) : Bool :=
  decide (a.current < 65536) && decide (a.voltage < 65536) &&
  decide (-32768 ≤ a.heatsink) && decide (a.heatsink ≤ 32767) && decide (a.code ≤ 253)

/-- R168: the kinds of the request catalogue, section 12.5. -/
def kindKnown (kind : Byte) : Bool :=
  decide (1 ≤ kind.toNat ∧ kind.toNat ≤ 0x0C) || decide (0x20 ≤ kind.toNat ∧ kind.toNat ≤ 0x2E)

/-- A command that can come from the host, the plant or the part's timers. -/
def Instr.wellFormed : Instr → Bool
  | .readIdentity _ p => payloadFits p
  | .readPlant _ p => payloadFits p
  | .readString _ p => payloadFits p
  | .readModule _ p => payloadFits p
  | .readSources _ p => payloadFits p
  | .readChannel _ p => payloadFits p
  | .readInputs _ p => payloadFits p
  | .readAlarms _ p => payloadFits p
  | .readLog _ p => payloadFits p
  | .readOperation _ p => payloadFits p
  | .readSetting _ p => payloadFits p
  | .readLink _ p => payloadFits p
  | .writeSetting _ p => payloadFits p
  | .storeSettings _ p => payloadFits p
  | .setClock _ p => payloadFits p
  | .relaysOn _ p => payloadFits p
  | .relaysOff _ p => payloadFits p
  | .beginRequest _ p => payloadFits p
  | .endRequest _ p => payloadFits p
  | .acknowledge _ p => payloadFits p
  | .clearPoints _ p => payloadFits p
  | .prove _ p => payloadFits p
  | .contactor _ p => payloadFits p
  | .enrol _ p => payloadFits p
  | .retire _ p => payloadFits p
  | .syncString _ p => payloadFits p
  | .restartRequest _ p => payloadFits p
  | .unknownKind k _ p => !kindKnown k && payloadFits p
  | .badCrcFrame => true
  | .frameHeld _ _ p => payloadFits p
  | .overrun _ _ p => payloadFits p
  | .receiverGapTimerExpiry => true
  | .scanCompletion _ order => scanOrderOk order
  | .pollCycleCompletion => true
  | .moduleReply _ a => answerOk a
  | .moduleMiss _ => true
  | .startTimerExpiry _ => true
  | .rampStep => true
  | .schedulerEvaluation => true
  | .secondTick order => tickOrderOk order
  | .hourlyPersistenceWrite => true
  | .inputChange _ _ => true
  | .feedbackCheckTimerExpiry _ => true
  | .prestartTimerExpiry => true
  | .crankTimerExpiry => true
  | .restTimerExpiry => true
  | .warmupTimerExpiry => true
  | .checkWindowExpiry => true
  | .changeoverGapTimerExpiry => true
  | .exerciseTimerExpiry => true
  | .cooldownTimerExpiry => true
  | .rundownTimerExpiry => true
  | .retryTimerExpiry => true
  | .absorbTimerExpiry => true
  | .equalizeTimerExpiry => true
  | .escalationTimerExpiry _ => true
  | .supervisionTimerExpiry => true
  | .testStepTimerExpiry => true
  | .testMinuteTimerExpiry => true
  | .testTimeLimitExpiry => true
  | .storeCompletion => true
  | .coldRestart _ _ => true
  | .warmRestart _ _ => true
  | .byteReceived _ => true
  | .replySent => true
  | .contactSample _ _ => true
  | .powerLoss _ => true

end Sys2Proof
end

