-- ==== Sys2Proof/Decode.lean ====
section
/-! DEFINITION. From words and frames to commands.

spec/opcode_table.json gives no row any bits: the part has no instruction words (00_scope.md, "How the part is
reached"), so no word spells a command. What the manual does encode is the KIND byte of a request frame (section
12.5), read here by `requestOf`. -/

namespace Sys2Proof

/-- The command that a word spells by the table's bits. The table gives no row bits, so there is none. -/
def decodeTableWord (_nbits _w : Nat) : Option Instr := none

/-- Section 12.5: the command that the taking of a good frame of this KIND is; a kind outside the catalogue is
UNKNOWN_KIND (R168). -/
def requestOf (kind tag : Byte) (payload : List Byte) : Instr :=
  match kind.toNat with
  | 0x01 => .readIdentity tag payload
  | 0x02 => .readPlant tag payload
  | 0x03 => .readString tag payload
  | 0x04 => .readModule tag payload
  | 0x05 => .readSources tag payload
  | 0x06 => .readChannel tag payload
  | 0x07 => .readInputs tag payload
  | 0x08 => .readAlarms tag payload
  | 0x09 => .readLog tag payload
  | 0x0A => .readOperation tag payload
  | 0x0B => .readSetting tag payload
  | 0x0C => .readLink tag payload
  | 0x20 => .writeSetting tag payload
  | 0x21 => .storeSettings tag payload
  | 0x22 => .setClock tag payload
  | 0x23 => .relaysOn tag payload
  | 0x24 => .relaysOff tag payload
  | 0x25 => .beginRequest tag payload
  | 0x26 => .endRequest tag payload
  | 0x27 => .acknowledge tag payload
  | 0x28 => .clearPoints tag payload
  | 0x29 => .prove tag payload
  | 0x2A => .contactor tag payload
  | 0x2B => .enrol tag payload
  | 0x2C => .retire tag payload
  | 0x2D => .syncString tag payload
  | 0x2E => .restartRequest tag payload
  | _ => .unknownKind kind tag payload

end Sys2Proof
end

