-- ==== Sys2Proof/Machine/Arith.lean ====
section
/-! DEFINITION. The roundings the rules state, ranges, bytes of a field, and the CRC-16 of R166. -/

namespace Sys2Proof.Machine

/-- R79: the smallest integer not below a / b. -/
def ceilDiv (a b : Nat) : Nat := (a + b - 1) / b

/-- R59: a / b rounded to the nearest integer, a half away from zero. -/
def roundHalfAway (a : Int) (b : Nat) : Int :=
  if 0 ≤ a then (2 * a + b) / (2 * b) else -((2 * (-a) + b) / (2 * b))

/-- R34, R84, R140: a / b rounded toward zero. -/
def truncDiv (a : Int) (b : Nat) : Int := Int.tdiv a b

/-- `v` taken at the nearest limit of lo to hi. -/
def clampNat (lo hi v : Nat) : Nat := max lo (min hi v)

/-- `v` taken at the nearest limit of lo to hi. -/
def clampInt (lo hi v : Int) : Int := max lo (min hi v)

/-- R179: a field of two bytes, high byte first. -/
def bytes2 (v : Nat) : List Byte := [BitVec.ofNat 8 (v / 256), BitVec.ofNat 8 v]

/-- R179: a field of four bytes, high byte first. -/
def bytes4 (v : Nat) : List Byte := bytes2 (v / 65536) ++ bytes2 v

/-- R179: a signed field of two bytes, in two's complement. -/
def signed2 (v : Int) : List Byte := bytes2 (v % 65536).toNat

/-- A field of one byte. -/
def byte1 (v : Nat) : Byte := BitVec.ofNat 8 v

/-- R166: one bit of the CRC: polynomial 0x1021, not reflected. -/
def crcBit (c : Word16) : Word16 := if c.msb then (c <<< 1) ^^^ 0x1021#16 else c <<< 1

/-- R166: one byte of the CRC. -/
def crcByte (c : Word16) (b : Byte) : Word16 :=
  crcBit (crcBit (crcBit (crcBit (crcBit (crcBit (crcBit (crcBit (c ^^^ (b.setWidth 16 <<< 8)))))))))

/-- R166: the CRC-16 over the bytes, from 0xFFFF, with no final inversion. -/
def crc16 (bs : List Byte) : Word16 := bs.foldl crcByte 0xFFFF#16

/-- R166: the CRC as it is sent, high byte first. -/
def crcBytes (c : Word16) : List Byte := bytes2 c.toNat

end Sys2Proof.Machine
end

