-- ==== Sys2Proof/Config.lean ====
section
/-! DEFINITION. What the part fixes once, and the free values of the model.

A free value stands for a figure the manual does not state: the detail of some entries of the event log and a count of
minutes past its top (DESIGN CHOICE, notes/assumptions/15.md and 43.md). It has no body, so no claim can rest on it. -/

namespace Sys2Proof.Config

/-- DESIGN CHOICE, notes/assumptions/15.md. The detail of a log entry for which no rule of the manual gives a figure, the
signed 16 bits of R155, by the running number of its use (`State.fresh`). -/
opaque freeDetail : Nat → BitVec 16

/-- DESIGN CHOICE, notes/assumptions/43.md. What a count of minutes of R75 that stands at its top of 4 294 967 295 becomes
at its next minute, by the second tick of that minute and the count concerned (0 to 11 a module, 12 rot_minutes). -/
opaque freeMinutes : Nat → Nat → BitVec 32

/-- R94: the fixed rundown time of an engine, rundown_max, in seconds. -/
def rundownMaxS : Nat := 60

/-- R91: the changeover gap, in milliseconds. -/
def gapMs : Nat := 1000

/-- R97: the check window at the end of warm-up, in seconds. -/
def checkWindowS : Nat := 30

/-- R129: the feedback window and disagreement time, in milliseconds. -/
def feedbackMs : Nat := 500

/-- R74: the start time of a module, in seconds. -/
def moduleStartS : Nat := 10

/-- R68: the poll cycle, in milliseconds. -/
def pollCycleMs : Nat := 600

/-- R107: the pace of the scheduler evaluation, in milliseconds. -/
def evaluationMs : Nat := 10000

/-- R19: the samples of a debounce interval after the one that begins it. -/
def debounceSamples : Nat := 50

/-- R29, R41: the top of time_since_full and eq_elapsed. -/
def elapsedTop : Nat := 2147483647

/-- R64: the holdoff after an equalize that did not complete, in seconds. -/
def eqHoldoffS : Nat := 86400

/-- R155: the most entries the event log holds. -/
def logSize : Nat := 512

/-- R155: the last sequence before the log is emptied and begins again at 1. -/
def lastSequence : Nat := 4294967295

/-- 00_scope.md, "Time": site seconds is a 32-bit count. -/
def siteSecondsWrap : Nat := 4294967296

/-- R140: the interval of a step of the test's lowering, floor(60 × 1000 / 16) milliseconds. -/
def testStepMs : Nat := 3750

/-- R170: the protocol level READ IDENTITY gives. -/
def protocolLevel : Nat := 1

/-- R170: the part code. -/
def partCode : String := "RZP48"

end Sys2Proof.Config
end

