-- ==== Sys2Proof/Machine/State.lean ====
section
/-! DEFINITION. The state of the block as plain data: every record the manual names, and the state right after reset.

A duration's end is a `Timer`: the moment it was started and the moment it expires, in milliseconds since the restart.
Where a record may be absent it is an `Option`. -/

namespace Sys2Proof.Machine

/-- A running timer: when it was started and when it expires, in ms since the restart. A stopped timer is `none`. -/
structure Timer where
  start : Nat
  due : Nat
deriving DecidableEq, Repr

/-! ## Measurement (01) -/

/-- R1: a channel's status. -/
inductive ChanStatus where
  | noData | valid | overrange | faulty | disabled
deriving DecidableEq, Repr

/-- R1: a channel record; `value` is `none` for NO DATA. -/
structure Channel where
  value : Option Int
  status : ChanStatus
  age : Nat
deriving DecidableEq, Repr

/-- R7, R8: the rate history of a temperature channel, oldest sample first (`none` is a NO DATA sample), and its rate. -/
structure RateHistory where
  ring : List (Option Int)
  rate : Option Int
deriving DecidableEq, Repr

/-- R9: a watch's state. -/
inductive WatchState where
  | isFalse | arming | isTrue | disarming
deriving DecidableEq, Repr

/-- R9: the state and elapsed count of a watch. -/
structure Watch where
  state : WatchState
  elapsed : Nat
deriving DecidableEq, Repr

/-- What the measurement scanner keeps. -/
structure Measurement where
  channels : Table Channel 20
  rates : Table RateHistory 5
  watches : Table Watch 16
  scanCount : Nat
deriving DecidableEq, Repr

/-! ## Inputs and relays (02) -/

/-- R19, R20: an input's debounced contact (`true` closed), its record, the samples counted of a debounce interval in
progress, and the samples taken since the restart. -/
structure Input where
  contact : Bool
  active : Bool
  changed : Bool
  stamp : Nat
  interval : Option Nat
  samples : Nat
deriving DecidableEq, Repr

/-- R25: a relay record. -/
structure Relay where
  energized : Bool
  stamp : Nat
deriving DecidableEq, Repr

/-! ## Operations (09) -/

/-- R133: how an operation ended. -/
inductive Termination where
  | completed | stopped | aborted
deriving DecidableEq, Repr

/-- R133: why. -/
inductive Cause where
  | none | sourceChanged | fault | thermal | lowVoltage | hostSilent | restart | allowance | generatorStart
deriving DecidableEq, Repr

/-- R155, R179: who made a log entry; R133: who began an operation (HOST, SCHEDULE or RESTART). -/
inductive Origin where
  | part | host | prove | auto | schedule | restart
deriving DecidableEq, Repr

/-- R133: the kinds of operation. -/
inductive OpKind where
  | run | exercise | equalize | dischargeTest | rotate
deriving DecidableEq, Repr

/-- R133: the reason of a generator run. -/
inductive Reason where
  | lowCharge | lowVoltage | emergency | cycle | exerciseConverted | host
deriving DecidableEq, Repr

/-- R134: the state of an operation record; an IDLE slot holds no record. -/
inductive OpState where
  | running | stopping | done
deriving DecidableEq, Repr

/-- R101, R105: stop codes 1 to 12. -/
inductive StopCode where
  | condition | duration | gridReturn | maxRun | allowance | endByHost | startFail | warmupFail | faultInput
  | runningLost | stopFail | restart
deriving DecidableEq, Repr

/-- R88: the outcome of a rotation. -/
inductive RotateOutcome where
  | changed | noChange | superseded | absorbed
deriving DecidableEq, Repr

/-- R144: why a test ended COMPLETED. -/
inductive EndReason where
  | depth | endVoltage | time
deriving DecidableEq, Repr

/-- R140, R141: the test's phase. -/
inductive TestPhase where
  | lowering | discharging
deriving DecidableEq, Repr

/-- R144: one test string's entry in the result. -/
structure TestEntry where
  index : Fin 4
  delivered : Nat
  lastV : Option Int
  minutes : Nat
  skipped : Nat
deriving DecidableEq, Repr

/-- The result of an operation, by kind: R105, R65, R88, R144. -/
inductive OpResult where
  | generator (onloadMinutes idlingMinutes attempts fuelUsed : Nat) (reason : Option Reason) (stop : Option StopCode)
  | equalize (minutes : Nat)
  | rotate (outcome : Option RotateOutcome) (outgoing : Option (Fin 12)) (tried : List (Fin 12))
      (outgoingMinutes incomingMinutes : Option Nat)
  | test (reason : Option EndReason) (phase : TestPhase) (minutes : Nat) (lowest : Option Int) (entries : List TestEntry)
deriving DecidableEq, Repr

/-- R159: the mode. -/
inductive Mode where
  | attended | hold
deriving DecidableEq, Repr

/-- R133: an operation record. `termination` and `cause` are `none` while absent. -/
structure OpRec where
  state : OpState
  kind : OpKind
  origin : Origin
  reason : Option Reason
  modeAtBegin : Mode
  beginStamp : Nat
  args : List Nat
  termination : Option Termination
  cause : Option Cause
  doneStamp : Nat
  result : Option OpResult
  unread : Bool
deriving DecidableEq, Repr

/-- R141: what the test keeps for a test string; `cRated` is its C_rated_cAs. -/
structure TestString where
  index : Fin 4
  cRated : Nat
  delivered : Nat
  dischargeScans : Nat
  skippedScans : Nat
  lastV : Option Int
deriving DecidableEq, Repr

/-- R139 to R141: the discharge test. Its arguments stand in the TEST slot's record. -/
structure TestRec where
  phase : TestPhase
  step : Nat
  setpoint : Int
  testV : Int
  s0 : Int
  minutes : Nat
  lowest : Option Int
  endCount : Option Nat
  lowCount : Option Nat
  members : List TestString
  stepTimer : Option Timer
  minuteTimer : Option Timer
  limitTimer : Option Timer
deriving DecidableEq, Repr

/-! ## Strings (03) -/

/-- R29: where T_cap came from. -/
inductive TempSource where
  | string | ambient | default
deriving DecidableEq, Repr

/-- R29: a string's phase. -/
inductive Phase where
  | isolated | charging | resting | discharging
deriving DecidableEq, Repr

/-- R29: a string's figures from its most recent discharge test. -/
structure TestResult where
  delivered : Nat
  lastV : Option Int
  minutes : Nat
  termination : Termination
  doneStamp : Nat
deriving DecidableEq, Repr

/-- R29: a string record. The fields enrolled and C_rated are settings and are read there. -/
structure StringRec where
  tCap : Int
  tSource : TempSource
  cEff : Nat
  q : Nat
  u : Nat
  soc : Nat
  socC : Nat
  phase : Phase
  full : Bool
  tail : Nat
  sinceFull : Nat
  lastI : Option Int
  fault : Bool
  test : Option TestResult
deriving DecidableEq, Repr

/-! ## Charge regime (04) -/

/-- R50: the plant regime. -/
inductive Regime where
  | noSource | bulk | absorb | float | equalize | test
deriving DecidableEq, Repr

/-- R58: where T_comp came from. -/
inductive CompSource where
  | string | ambient | default | defaultHot
deriving DecidableEq, Repr

/-- R50: the regime record, with the equalize timer and minute count of R63 and R65, and the presence of a source as
last formed (R51). -/
structure RegimeRec where
  regime : Regime
  entered : Nat
  bulkHeld : Option Nat
  absorb : Option Timer
  tComp : Int
  compSource : CompSource
  guard : Bool
  setpoint : Int
  eqElapsed : Nat
  eqHoldoff : Nat
  eqTimer : Option Timer
  eqMinutes : Nat
  eqSeconds : Nat
  present : Bool
deriving DecidableEq, Repr

/-! ## Rectifier shelf (05) -/

/-- R71: a module's state. -/
inductive ModuleState where
  | notFitted | found | unpolled | standby | starting | online | fault | lost
deriving DecidableEq, Repr

/-- R69, R71: what a position was sent in a poll. -/
inductive PollCommand where
  | query
  | off (setpoint : Int)
  | on (setpoint : Int) (limit : Nat)
deriving DecidableEq, Repr

/-- R85: what the command set of a cycle plans for a position; `owedOff` is the off command owed by RETIRE. -/
inductive PollPlan where
  | silent | query | off | owedOff
  | on (limit : Nat)
deriving DecidableEq, Repr

/-- R71: the most recent reply taken, with its site seconds. -/
structure LastReply where
  answer : ModuleAnswer
  stamp : Nat
deriving DecidableEq, Repr

/-- R71: a module record; `owed` is the off command owed by RETIRE (R77). The field enrolled is in the settings. -/
structure Module where
  state : ModuleState
  fault : Nat
  miss : Nat
  good : Nat
  startTimer : Option Timer
  runMinutes : Nat
  onlineSeconds : Nat
  lastReply : Option LastReply
  lastCommand : Option PollCommand
  owed : Bool
deriving DecidableEq, Repr

/-- R83: the state of the ramp. -/
inductive RampKind where
  | none | walkin | unload | zero
deriving DecidableEq, Repr

/-- R83, R84: the ramp; `interval` is its step interval in ms. -/
structure Ramp where
  kind : RampKind
  l0 : Int
  l1 : Int
  step : Nat
  interval : Nat
  timer : Option Timer
deriving DecidableEq, Repr

/-- R86 to R88: a rotation in flight, with every position's run minutes at the begin. -/
structure Rotation where
  outgoing : Fin 12
  incoming : Fin 12
  tried : List (Fin 12)
  minutes : Table Nat 12
deriving DecidableEq, Repr

/-- R81: the shelf's figures that a write changes only at the next poll cycle completion. -/
structure ShelfFigures where
  rating : Nat
  loading : Nat
  redundancy : Nat
  minOnline : Nat
  genLimit : Nat
deriving DecidableEq, Repr

/-- What the rectifier shelf keeps (R71, R75, R78, R79, R80, R81, R82, R83, R85); `inForce` has the figures that took effect
at the last poll cycle completion. -/
structure Shelf where
  modules : Table Module 12
  iDemand : Nat
  nReq : Nat
  nReqUnclamped : Nat
  target : Nat
  lTot : Nat
  ramp : Ramp
  shedTimer : Option Nat
  rotMinutes : Nat
  cycle : Nat
  plan : Table PollPlan 12
  rotation : Option Rotation
  inForce : ShelfFigures
deriving DecidableEq, Repr

/-! ## Mains and generator (06) -/

/-- R92: the present source. -/
inductive Source where
  | none | grid | generator
deriving DecidableEq, Repr

/-- R91: the changeover state. -/
inductive Changeover where
  | mainsFeed | toGen | genFeed | toMains
deriving DecidableEq, Repr

/-- R90 to R92: the source supervisor. -/
structure Mains where
  qualified : Bool
  source : Source
  changeover : Changeover
  gapTimer : Option Timer
deriving DecidableEq, Repr

/-- R93: the controller state, ONLOAD with its sub-phase, in the order of the codes of GEN_STATE. -/
inductive GenState where
  | off | prestart | crank | rest | warmup | idling | onloadWalkin | onloadRunning | onloadUnloading | cooldown
  | rundown | lockout
deriving DecidableEq, Repr

/-- R93, R101: a stop that has been taken. -/
structure Stop where
  code : StopCode
  termination : Termination
  cause : Cause
deriving DecidableEq, Repr

/-- R93: the state RUNDOWN leads to. -/
inductive RundownTarget where
  | off | lockout
deriving DecidableEq, Repr

/-- R93: which failures hold the present lockout. -/
structure LockoutCauses where
  start : Bool
  run : Bool
  stop : Bool
deriving DecidableEq, Repr

/-- R106: the figures a generator record keeps over a warm restart. -/
structure KeptFigures where
  onload : Nat
  idling : Nat
  attempt : Nat
deriving DecidableEq, Repr

/-- R93: the controller record, with the moment of entry to LOCKOUT (R104), the fuel estimate at the start of the run
(R105) and the figures kept over a warm restart (R106). -/
structure Generator where
  state : GenState
  attempt : Nat
  timer : Option Timer
  window : Option Timer
  onload : Nat
  idling : Nat
  exercise : Option Timer
  stop : Option Stop
  target : RundownTarget
  causes : LockoutCauses
  retry : Option Timer
  lockoutAt : Nat
  fuelStart : Nat
  kept : Option KeptFigures
deriving DecidableEq, Repr

/-! ## Run decisions (07) -/

/-- R109: the gates of a start. -/
inductive Gate where
  | reserve | allowance | latch | quiet
deriving DecidableEq, Repr

/-- R107: what the most recent evaluation decided about a start. -/
inductive Decision where
  | notConsidered (precondition : Nat)
  | noReason
  | gated (reason : Reason) (gate : Gate)
  | started (reason : Reason)
deriving DecidableEq, Repr

/-- R117: the levels of the fuel reserve, which a write changes only at the next evaluation. -/
structure FuelLevels where
  reserve : Nat
  hyst : Nat
deriving DecidableEq, Repr

/-- R107: the scheduler record; `evaluated` says that an evaluation has come since the restart (R119), and `levels` has the
levels that took effect at the last evaluation (R117). -/
structure Scheduler where
  latch : Bool
  reserve : Bool
  estimate : Nat
  loadedS : Nat
  runningS : Nat
  lastEval : Nat
  outcome : Decision
  evaluated : Bool
  levels : FuelLevels
deriving DecidableEq, Repr

/-- R118: the clock when it is set. -/
structure Clock where
  day : Nat
  minute : Nat
  second : Nat
deriving DecidableEq, Repr

/-! ## Contactors (08) -/

/-- R120: what a claim says, and a drive: OPEN (relay energized) or CLOSE (relay de-energized). -/
inductive Drive where
  | opened | closed
deriving DecidableEq, Repr

/-- R120: the claimants. -/
inductive Claimant where
  | service | host | hand | lvd | thermal
deriving DecidableEq, Repr

/-- R129: the feedback check. -/
inductive Check where
  | agree | window | disagree | faulted
deriving DecidableEq, Repr

/-- R120: a target record. THERMAL and LVD say OPEN and HAND says HOLD, so their claims are Bools; HOST may be absent;
SERVICE is always asserted (R121). -/
structure Target where
  thermal : Bool
  lvd : Bool
  hand : Bool
  host : Option Drive
  service : Drive
  drive : Drive
  decider : Claimant
  check : Check
  timer : Option Timer
deriving DecidableEq, Repr

/-- R124: the LVD stage. -/
inductive LvdStage where
  | normal | neldShed | battOff
deriving DecidableEq, Repr

/-! ## Alarms and log (10) -/

/-- R148: a point's state. -/
inductive PointState where
  | normal | raised | held | latched
deriving DecidableEq, Repr

/-- R145: a point record; `raisedAt` is the moment of entry to RAISED, in ms (R150). -/
structure Point where
  state : PointState
  raw : Bool
  proof : Bool
  escalated : Bool
  timer : Option Timer
  raisedAt : Nat
  count : Nat
  first : Nat
  last : Nat
deriving DecidableEq, Repr

/-- R150: a severity. -/
inductive Severity where
  | critical | major | minor | warning
deriving DecidableEq, Repr

/-- R155: the kinds of log entry. -/
inductive LogKind where
  | alarmRaised | alarmLatched | alarmHeld | alarmNormal | genState | source | regime | moduleState | contactor
  | lvdStage | opBegin | opEnd | stringFull | sync | mode | exerciseSkipped | settingsStored | restart
deriving DecidableEq, Repr

/-- R155: a log entry. -/
structure LogEntry where
  seq : Nat
  stamp : Nat
  kind : LogKind
  subject : Nat
  origin : Origin
  detail : Option Int
deriving DecidableEq, Repr

/-! ## Mode (11) -/

/-- R159: why the mode last changed. -/
inductive ModeCause where
  | silent | startup | host
deriving DecidableEq, Repr

/-- R159: the mode record. -/
structure ModeRec where
  mode : Mode
  cause : ModeCause
  entered : Nat
  timer : Option Timer
  remaining : Nat
  holdOnloadS : Nat
deriving DecidableEq, Repr

/-! ## Settings and the stored images (13) -/

/-- The settings as (id, value) pairs: ids strictly rising, and no value equal to the setting's default. An id that is
not listed has its default. -/
abbrev Settings := List (Nat × Nat)

/-- R175: the stored copy with its checksum; `incomplete` says that power was lost while it was being written. -/
structure StoredCopy where
  values : Settings
  checksum : Word16
  incomplete : Bool
deriving DecidableEq, Repr

/-- R176: a string's items in the persistence record. -/
structure RecordString where
  enrolled : Bool
  q : Nat
  u : Nat
  sinceFull : Nat
deriving DecidableEq, Repr

/-- R176: the items of the persistence record. -/
structure RecordItems where
  strings : Table RecordString 4
  runMinutes : Table Nat 12
  rotMinutes : Nat
  estimate : Nat
  remaining : Nat
deriving DecidableEq, Repr

/-- R176: the persistence record with its checksum; `incomplete` says that power was lost during its write. -/
structure PersistRecord where
  items : RecordItems
  checksum : Word16
  incomplete : Bool
deriving DecidableEq, Repr

/-- R170: the two kinds of restart. -/
inductive RestartKind where
  | cold | warm
deriving DecidableEq, Repr

/-- R170: where the working settings came from at the last cold restart. -/
inductive SettingsOrigin where
  | stored | defaults
deriving DecidableEq, Repr

/-! ## Replies and the link (12) -/

/-- R168: the refusal reasons. -/
inductive RefusalReason where
  | unknownKind | badLength | badSubject | conflict | busy | state | notOwner | locked | range
deriving DecidableEq, Repr

/-- R171: the figures of READ PLANT. -/
structure PlantReply where
  siteSeconds : Nat
  attn : Bool
  storePending : Bool
  mode : Mode
  modeCause : ModeCause
  modeEntered : Nat
  remaining : Nat
  regime : Regime
  regimeEntered : Nat
  setpoint : Int
  allowance : Nat
  tComp : Int
  compSource : CompSource
  guard : Bool
  eqElapsed : Nat
  lTot : Nat
  energized : Nat
  healthy : Nat
  nReq : Nat
  source : Source
  gen : GenState
  lvd : LvdStage
  minSoc : Option Nat
  minSocC : Option Nat
  estimate : Nat
  reserve : Bool
  latch : Bool
  outcome : Decision
  lastEval : Nat
  clock : Option Clock
deriving DecidableEq, Repr

/-- R45: the figures of READ STRING. -/
structure StringReply where
  index : Fin 4
  enrolled : Bool
  inService : Bool
  cRated : Nat
  string : StringRec
deriving DecidableEq, Repr

/-- R78: the module record of READ MODULE; `startRemaining` in seconds, 0 when stopped. -/
structure ModuleReply where
  position : Fin 12
  enrolled : Bool
  module : Module
  startRemaining : Nat
deriving DecidableEq, Repr

/-- R78: the shelf record; `shedSeconds` is the seconds since the excess began, `none` when the timer is stopped. -/
structure ShelfReply where
  iDemand : Nat
  nReq : Nat
  nReqUnclamped : Nat
  healthy : Nat
  energized : Nat
  target : Nat
  lTot : Nat
  ramp : RampKind
  l0 : Int
  l1 : Int
  step : Nat
  shedSeconds : Option Nat
  rotMinutes : Nat
  enrolledMask : Nat
  cycle : Nat
deriving DecidableEq, Repr

/-- R170: the figures of READ SOURCES. -/
structure SourcesReply where
  qualified : Bool
  gridVOk : Bool
  gridFOk : Bool
  genVOk : Bool
  genFOk : Bool
  gridV : Option Int
  gridF : Option Int
  genV : Option Int
  genF : Option Int
  source : Source
  changeover : Changeover
  gapRemainingMs : Nat
  mainsBreak : Bool
  genMake : Bool
  mainsBreakAux : Bool
  genMakeAux : Bool
  gen : GenState
  attempt : Nat
  running : Bool
  onload : Nat
  idling : Nat
  causes : LockoutCauses
  retryRemainingS : Nat
deriving DecidableEq, Repr

/-- R15: one watch in the reply to READ CHANNEL. -/
structure WatchEntry where
  number : Nat
  state : WatchState
  elapsed : Nat
deriving DecidableEq, Repr

/-- R15: the reply to READ CHANNEL. -/
structure ChannelReply where
  id : Fin 20
  value : Option Int
  status : ChanStatus
  age : Nat
  rate : Option Int
  samples : Nat
  watches : List WatchEntry
deriving DecidableEq, Repr

/-- R22: one input in the reply to READ INPUTS. -/
structure InputEntry where
  active : Bool
  changed : Bool
  stamp : Nat
deriving DecidableEq, Repr

/-- R157: one point in the reply to READ ALARMS. -/
structure PointReply where
  point : Fin 41
  state : PointState
  raw : Bool
  effective : Bool
  proof : Bool
  mask : Bool
  severity : Severity
  latching : Bool
  effectiveSeverity : Severity
  count : Nat
  first : Nat
  last : Nat
deriving DecidableEq, Repr

/-- R141: a test string's delivered charge in the progress of a test. -/
structure DeliveredEntry where
  index : Fin 4
  delivered : Nat
deriving DecidableEq, Repr

/-- R133: the progress field of an occupied slot. -/
inductive Progress where
  | generator (state : GenState) (attempt onload idling : Nat)
  | equalize (minutes : Nat)
  | rotate (outgoing incoming : Option (Fin 12))
  | lowering (step : Nat) (setpoint : Int)
  | discharging (minutes : Nat) (delivered : List DeliveredEntry) (lowest : Option Int) (endCount lowCount : Option Nat)
deriving DecidableEq, Repr

/-- R137: the record READ OPERATION gives; `record` is `none` for an IDLE slot. -/
structure OperationReply where
  slot : Fin 4
  record : Option OpRec
  progress : Option Progress
deriving DecidableEq, Repr

/-- R174: the reply to READ SETTING. -/
structure SettingReply where
  id : Nat
  value : Nat
  low : Nat
  high : Nat
  default : Nat
  stored : Nat
deriving DecidableEq, Repr

/-- R169: the link status flags and the good-frame count. -/
structure LinkStatus where
  crc : Bool
  fragment : Bool
  overrun : Bool
  unknown : Bool
  good : Nat
deriving DecidableEq, Repr

/-- The data record of an acceptance. -/
inductive ReplyData where
  /-- STORE SETTINGS and RESTART: an empty record (R172, R175) -/
  | empty
  /-- R170 -/
  | identity (partCode : String) (level rate siteSeconds : Nat) (restart : RestartKind) (origin : SettingsOrigin)
  /-- R171 -/
  | plant (r : PlantReply)
  /-- R45, R44 -/
  | string (r : StringReply)
  /-- R78, R76, R77 -/
  | module (r : ModuleReply)
  /-- R78 -/
  | shelf (r : ShelfReply)
  /-- R170 -/
  | sources (r : SourcesReply)
  /-- R15 -/
  | channel (r : ChannelReply)
  /-- R22 -/
  | inputs (r : List InputEntry)
  /-- R157: point records, ATTN, ALM_CRIT, ALM_MAJ, ALM_MIN -/
  | alarms (points : List PointReply) (attn crit maj min : Bool)
  /-- R156 -/
  | log (oldest newest : Nat) (gap : Bool) (entries : List LogEntry)
  /-- R137, R136 -/
  | operation (r : OperationReply)
  /-- R174 -/
  | setting (r : SettingReply)
  /-- R169 -/
  | link (r : LinkStatus)
  /-- R173: CLAMPED, the id and the value taken -/
  | written (clamped : Bool) (id value : Nat)
  /-- R118 -/
  | clock (c : Clock)
  /-- R26: the 14 relay records -/
  | relays (r : Table Relay 14)
  /-- R135: CLAMPED, the values taken and the record -/
  | begun (clamped : Bool) (values : List Nat) (r : OperationReply)
  /-- R151, R152: the points changed, and the points RAISED or LATCHED, in id order -/
  | points (changed standing : List (Fin 41))
  /-- R128: the target's record and its auxiliary input -/
  | contactor (target : Fin 5) (r : Target) (aux : Bool)
deriving DecidableEq, Repr

/-- R166: a reply: an acceptance with its data record, or a refusal with the reason and a detail. -/
inductive Reply where
  | accept (kind tag : Byte) (data : ReplyData)
  | refuse (kind tag : Byte) (reason : RefusalReason) (detail : Nat)
deriving DecidableEq, Repr

/-- A good frame: KIND, TAG and PAYLOAD (R166). -/
structure Frame where
  kind : Byte
  tag : Byte
  payload : List Byte
deriving DecidableEq, Repr

/-- R167: the receiver. `body` holds what is left to receive and the bytes received, LEN first; `check` the frame's
bytes and the first CRC byte once it has come. -/
inductive Receiver where
  | hunt
  | length
  | body (left : Nat) (got : List Byte)
  | check (got : List Byte) (first : Option Byte)
deriving DecidableEq, Repr

/-- R172: how far an accepted RESTART has come. -/
inductive RestartStage where
  | none
  /-- the acceptance is being sent -/
  | accepting
  /-- the acceptance is sent and the persistence record written; the warm restart is due -/
  | due
deriving DecidableEq, Repr

/-- R166 to R169: the link. -/
structure Link where
  straps : Straps
  receiver : Receiver
  status : LinkStatus
  reply : Option Reply
  held : Option Frame
  restart : RestartStage
deriving DecidableEq, Repr

/-! ## The whole state -/

/-- The state of the block. `pending` is the model's queue of waiting commands, first in, first out. -/
structure State where
  pending : List Instr
  powered : Bool
  ms : Nat
  tickCount : Nat
  evalCount : Nat
  hourCount : Nat
  fresh : Nat
  lastRestart : RestartKind
  settingsFrom : SettingsOrigin
  settings : Settings
  loaded : Settings
  stored : StoredCopy
  record : PersistRecord
  storePending : Bool
  meas : Measurement
  inputs : Table Input 16
  relays : Table Relay 14
  strings : Table StringRec 4
  charge : RegimeRec
  shelf : Shelf
  mains : Mains
  gen : Generator
  sched : Scheduler
  clock : Option Clock
  targets : Table Target 5
  lvd : LvdStage
  slots : Table (Option OpRec) 4
  test : TestRec
  points : Table Point 41
  relaysFormed : Bool
  log : List LogEntry
  mode : ModeRec
  link : Link
deriving DecidableEq, Repr

/-- The reasons a step could stop the machine: there is none. Every request ends in an acceptance or a refusal frame
and every event in a next state, so no command raises a fault. -/
inductive Fault where
deriving DecidableEq, Repr

/-- The reasons a command has no meaning. -/
inductive Refusal where
  /-- Raised by `exec` alone, for a row that has no meaning in this model yet (none is left). Safe: the machine stops. -/
  | notModelled (mnemonic : String)
deriving DecidableEq, Repr

/-! ## The records right after a cold restart whose stored images fail their checksums (R177; DESIGN CHOICE, notes/assumptions/8.md) -/

/-- R16: an enabled channel after a restart. -/
def Channel.start : Channel := ⟨none, .noData, 65535⟩

/-- R16. -/
def Measurement.start : Measurement :=
  ⟨Table.fill 20 Channel.start, Table.fill 5 ⟨[], none⟩, Table.fill 16 ⟨.isFalse, 0⟩, 0⟩

/-- R48. -/
def StringRec.start : StringRec :=
  ⟨250, .default, 72000000, 36000000, 72000000, 500, 0, .isolated, false, 0, 2147483647, none, false, none⟩

/-- R67. -/
def RegimeRec.start : RegimeRec :=
  ⟨.noSource, 0, none, none, 250, .default, false, 5400, 0, 0, none, 0, 0, false⟩

/-- R89: an enrolled position. -/
def Module.start : Module := ⟨.unpolled, 0, 0, 0, none, 0, 0, none, none, false⟩

/-- R89. -/
def Ramp.start : Ramp := ⟨.none, 0, 0, 0, 0, none⟩

/-- R89: every position enrolled, so the first cycle queries all twelve; the figures in force are the defaults of R81. -/
def Shelf.start : Shelf :=
  ⟨Table.fill 12 Module.start, 0, 0, 0, 0, 0, Ramp.start, none, 0, 0, Table.fill 12 .query, none,
   ⟨3000, 80, 1, 2, 12000⟩⟩

/-- R106. -/
def Mains.start : Mains := ⟨false, .none, .mainsFeed, none⟩

/-- R106: the engine not running. No rule gives the rundown target: it is OFF (DESIGN CHOICE, notes/assumptions/8.md). -/
def Generator.start : Generator :=
  ⟨.off, 0, none, none, 0, 0, none, none, .off, ⟨false, false, false⟩, none, 0, 0, none⟩

/-- R119: estimate fuel_fill × 10 = 0, so the reserve is active; the levels are the defaults of R117. -/
def Scheduler.start : Scheduler := ⟨false, true, 0, 0, 0, 0, .notConsidered 1, false, ⟨20000, 5000⟩⟩

/-- R132: only the SERVICE claim, saying CLOSE. -/
def Target.start : Target :=
  ⟨false, false, false, none, .closed, .closed, .service, .window, some ⟨0, 500⟩⟩

/-- The discharge test at rest. -/
def TestRec.start : TestRec :=
  ⟨.lowering, 0, 0, 0, 0, 0, none, none, none, [], none, none, none⟩

/-- R158: a point after a cold restart. -/
def Point.start : Point := ⟨.normal, false, false, false, none, 0, 0, 0, 0⟩

/-- DESIGN CHOICE (notes/assumptions/8.md): the contacts of a healthy plant at rest: the mains feed, the strings and the
load made (DI9, DI11 to DI15), the door shut (DI6), the smoke detector healthy (DI7), every other contact open. -/
def Contacts.healthy : Contacts :=
  ⟨[false, false, false, false, false, true, true, false, true, false, true, true, true, true, true, false], rfl⟩

/-- R23: an input as sampled at the restart. -/
def Input.start (contact active : Bool) : Input := ⟨contact, active, false, 0, none, 0⟩

/-- R23, R18: the inputs for `Contacts.healthy` and the default polarities. -/
def Input.healthy : Table Input 16 :=
  ⟨[.start false false, .start false false, .start false false, .start false false, .start false false,
    .start true false, .start true false, .start false false, .start true true, .start false false,
    .start true true, .start true true, .start true true, .start true true, .start true true, .start false false], rfl⟩

/-- R176: the items of a persistence record that has never been written. -/
def RecordItems.blank : RecordItems := ⟨Table.fill 4 ⟨false, 0, 0, 0⟩, Table.fill 12 0, 0, 0, 0⟩

/-- R158, R177: the points: GRID_FAIL (22) raised, SETTINGS_LOST (40) given two momentary conditions. -/
def Point.afterReset : Table Point 41 :=
  ((Table.fill 41 Point.start).set 21 ⟨.raised, true, false, false, some ⟨0, 14400000⟩, 0, 1, 0, 0⟩).set 39
    ⟨.latched, false, false, false, none, 0, 2, 0, 0⟩

/-- R158, R165, R177: the log: RESTART, MODE, GRID_FAIL raised, SETTINGS_LOST raised for the stored copy and for the
persistence record. -/
def LogEntry.afterReset : List LogEntry :=
  [⟨1, 0, .restart, 0, .part, none⟩, ⟨2, 0, .mode, 1, .part, some 2⟩, ⟨3, 0, .alarmRaised, 22, .part, some 8⟩,
   ⟨4, 0, .alarmRaised, 40, .part, some 1⟩, ⟨5, 0, .alarmRaised, 40, .part, some 2⟩]

/-- The machine right after reset: a cold restart (R177) of a part whose stored images have never been written. -/
def State.reset : State where
  pending := []
  powered := true
  ms := 0
  tickCount := 0
  evalCount := 0
  hourCount := 0
  fresh := 0
  lastRestart := .cold
  settingsFrom := .defaults
  settings := []
  loaded := []
  stored := ⟨[], 0, true⟩
  record := ⟨RecordItems.blank, 0, true⟩
  storePending := false
  meas := Measurement.start
  inputs := Input.healthy
  relays := Table.fill 14 ⟨false, 0⟩
  strings := Table.fill 4 StringRec.start
  charge := RegimeRec.start
  shelf := Shelf.start
  mains := Mains.start
  gen := Generator.start
  sched := Scheduler.start
  clock := none
  targets := Table.fill 5 Target.start
  lvd := .normal
  slots := Table.fill 4 none
  test := TestRec.start
  points := Point.afterReset
  relaysFormed := false
  log := LogEntry.afterReset
  mode := ⟨.hold, .startup, 0, some ⟨0, 600000⟩, 1200, 0⟩
  link := ⟨⟨false, false⟩, .hunt, ⟨false, false, false, false, 0⟩, none, none, .none⟩

end Sys2Proof.Machine
end

