-- ==== Sys2Proof/Machine/Operands.lean ====
section
/-! DEFINITION. The operands of a request, as its PAYLOAD carries them (R166, R179: a field of two or more bytes is sent
high byte first), and the places of the fixed functions in the tables. -/

namespace Sys2Proof.Machine

/-- Byte `i` of a payload, as a number. -/
def byteAt (p : List Byte) (i : Nat) : Nat := (p.getD i 0).toNat

/-- The field of two bytes at `i`, high byte first. -/
def wordAt (p : List Byte) (i : Nat) : Nat := byteAt p i * 256 + byteAt p (i + 1)

/-- The field of four bytes at `i`, high byte first. -/
def longAt (p : List Byte) (i : Nat) : Nat := wordAt p i * 65536 + wordAt p (i + 2)

/-- The six-byte mask at the start of a payload, high byte first (R151). -/
def maskAt (p : List Byte) : Nat := wordAt p 0 * 4294967296 + longAt p 2

/-- R26, R151: bit `k` of a mask is set. -/
def maskNames (m k : Nat) : Bool := decide (m / 2 ^ k % 2 = 1)

/-- A number counted from 1 as an index of a table of `n` rows; `none` outside 1 to n. -/
def indexOf (n v : Nat) : Option (Fin n) := if h : 1 ≤ v ∧ v ≤ n then some ⟨v - 1, by omega⟩ else none

/-- A number counted from 0 as an index; `none` at `n` or above. -/
def indexOf0 (n v : Nat) : Option (Fin n) := if h : v < n then some ⟨v, h⟩ else none

/-! ## R24: the relays -/

def rFuelRun : Fin 14 := 0
def rCrank : Fin 14 := 1
def rMainsBreak : Fin 14 := 2
def rGenMake : Fin 14 := 3
def rAlmCrit : Fin 14 := 9
def rAlmMaj : Fin 14 := 10
def rAlmMin : Fin 14 := 11
def rAux1 : Fin 14 := 12
def rAux2 : Fin 14 := 13
/-- The relay of target T1 to T5: SD1 to SD4 and NELD. -/
def rTarget (t : Fin 5) : Fin 14 := ⟨4 + t.val, by omega⟩

/-! ## R17: the inputs -/

def iGenRunning : Fin 16 := 0
def iLowOil : Fin 16 := 1
def iHighTemp : Fin 16 := 2
def iFuelLow : Fin 16 := 3
def iHand : Fin 16 := 4
def iDoor : Fin 16 := 5
def iSmoke : Fin 16 := 6
def iUser : Fin 16 := 7
def iMainsBreakAux : Fin 16 := 8
def iGenMakeAux : Fin 16 := 9
/-- The auxiliary input of target T1 to T5: SD1_AUX to SD4_AUX and NELD_AUX. -/
def iAux (t : Fin 5) : Fin 16 := ⟨10 + t.val, by omega⟩

/-! ## R1: the channels -/

def cBusV : Fin 20 := 0
def cLoadI : Fin 20 := 1
def cStrV (n : Fin 4) : Fin 20 := ⟨2 + n.val, by omega⟩
def cStrI (n : Fin 4) : Fin 20 := ⟨6 + n.val, by omega⟩
def cStrT (n : Fin 4) : Fin 20 := ⟨10 + n.val, by omega⟩
def cAmbT : Fin 20 := 14
def cGridV : Fin 20 := 15
def cGridF : Fin 20 := 16
def cGenV : Fin 20 := 17
def cGenF : Fin 20 := 18
def cFuelL : Fin 20 := 19

/-! ## R14: the watches -/

def wBusHigh : Fin 16 := 0
def wBusLow : Fin 16 := 1
def wGenStartLow : Fin 16 := 2
def wLvdWarn : Fin 16 := 3
def wNeldOpen : Fin 16 := 4
def wLvdOpen : Fin 16 := 5
def wLvdReclose : Fin 16 := 6
def wGridV : Fin 16 := 7
def wGridF : Fin 16 := 8
def wGenV : Fin 16 := 9
def wGenF : Fin 16 := 10
def wStrHot (n : Fin 4) : Fin 16 := ⟨11 + n.val, by omega⟩
def wAmbHot : Fin 16 := 15

/-! ## R145: the points -/

def pBusHigh : Fin 41 := 0
def pBusLow : Fin 41 := 1
def pLvdWarn : Fin 41 := 2
def pNeldOpen : Fin 41 := 3
def pLvdOpen : Fin 41 := 4
def pStringFault (n : Fin 4) : Fin 41 := ⟨5 + n.val, by omega⟩
def pStringHot (n : Fin 4) : Fin 41 := ⟨9 + n.val, by omega⟩
def pStringThermal (n : Fin 4) : Fin 41 := ⟨13 + n.val, by omega⟩
def pLowCharge : Fin 41 := 17
def pRectFail : Fin 41 := 18
def pRectComms : Fin 41 := 19
def pRedundancyLost : Fin 41 := 20
def pGridFail : Fin 41 := 21
def pGenFailStart : Fin 41 := 22
def pGenFailRun : Fin 41 := 23
def pGenFailStop : Fin 41 := 24
def pGenLongRun : Fin 41 := 25
def pFuelReserve : Fin 41 := 26
def pFuelSender : Fin 41 := 27
def pAbsorbTimeout : Fin 41 := 28
def pFullOverdue : Fin 41 := 29
def pTempCompLost : Fin 41 := 30
def pDoor : Fin 41 := 31
def pSmoke : Fin 41 := 32
def pHand : Fin 41 := 33
def pUser : Fin 41 := 34
def pHostSilent : Fin 41 := 35
def pAllowanceOut : Fin 41 := 36
def pSensorFault : Fin 41 := 37
def pContactorFault : Fin 41 := 38
def pSettingsLost : Fin 41 := 39
def pTestShortfall : Fin 41 := 40

/-! ## R133: the slots -/

def sGenerator : Fin 4 := 0
def sCharge : Fin 4 := 1
def sTest : Fin 4 := 2
def sShelf : Fin 4 := 3

/-- The target of string `n`. -/
def stringTarget (n : Fin 4) : Fin 5 := n.castSucc

/-- T5, the load disconnect. -/
def tNeld : Fin 5 := 4

end Sys2Proof.Machine
end

