-- ==== Sys2Proof/Machine/Settings.lean ====
section
/-! DEFINITION. The settings: their ids, ranges, defaults and relations (R2, R14, R18, R27, R30, R60, R81, R94, R117,
R126, R146, R159), and the one way they are read and written. -/

namespace Sys2Proof.Machine

/-- A setting's range and default. `gap` is the bottom of the upper part of a split range "0, or gap to high"
(R168), and 0 where the range is not split. -/
structure SettingRow where
  low : Nat
  high : Nat
  default : Nat
  gap : Nat
deriving DecidableEq, Repr

/-- A setting with a range that is not split. -/
def plainRow (low high default : Nat) : Option SettingRow := some ⟨low, high, default, 0⟩

/-- R145: the default severity (0 CRITICAL to 3 WARNING) of points 1 to 41. -/
def defaultSeverity : List Nat :=
  [1, 1, 0, 0, 0, 1, 1, 1, 1, 2, 2, 2, 2, 0, 0, 0, 0, 2, 1, 1, 2, 1, 0, 0, 0, 3, 1, 2, 3, 2, 2, 3, 0, 3, 2, 1, 1,
   2, 0, 1, 2]

/-- R145: the type of points 1 to 41: 0 non-latching, 1 latching, 2 event. -/
def pointType : List Nat :=
  [0, 0, 0, 0, 1, 1, 1, 1, 1, 0, 0, 0, 0, 1, 1, 1, 1, 0, 0, 0, 0, 0, 2, 2, 2, 2, 0, 0, 2, 0, 0, 0, 1, 0, 1, 1, 0,
   0, 2, 2, 2]

/-- R30: the settings of string accounting by offset. -/
def stringRow (offset : Nat) : Option SettingRow :=
  match offset with
  | 0 => plainRow 0 1 1
  | 1 => plainRow 10 3000 200
  | 2 => plainRow 800 1024 983
  | 3 => plainRow 1024 1536 1126
  | 4 => plainRow 100 32000 2000
  | 5 => plainRow 10 5000 200
  | 6 => plainRow 60 7200 900
  | 7 => plainRow 100 32000 2000
  | _ => none

/-- R30, group 0x01: `o` is the low byte of the id. -/
def accountingRow (o : Nat) : Option SettingRow :=
  if o < 0x40 then stringRow (o % 16) else
  match o with
  | 0x40 => plainRow 0 20 6
  | 0x41 => plainRow 5 200 30
  | 0x42 => plainRow 0 1000 50
  | _ => none

/-- R60, group 0x02. -/
def regimeRow (o : Nat) : Option SettingRow :=
  match o with
  | 0x00 => plainRow 5000 5600 5400
  | 0x01 => plainRow 5200 5800 5640
  | 0x02 => plainRow 5200 6000 5760
  | 0x03 => plainRow 4400 5000 4600
  | 0x04 => plainRow 0 2000 720
  | 0x05 => plainRow 4800 5400 5160
  | 0x06 => plainRow 5600 6000 5880
  | 0x07 => plainRow 1 24 8
  | 0x08 => plainRow 300 600 450
  | 0x09 => plainRow 1 12 4
  | 0x0A => plainRow 0 180 0
  | 0x0B => plainRow 250 450 350
  | _ => none

/-- R81, group 0x03. The enrolled mask is a word of 12 bits, position p at bit p − 1 (DEDUCED, notes/assumptions/34.md). -/
def shelfRow (o : Nat) : Option SettingRow :=
  match o with
  | 0x00 => plainRow 500 10000 3000
  | 0x01 => plainRow 50 100 80
  | 0x02 => plainRow 0 2 1
  | 0x03 => plainRow 1 12 2
  | 0x04 => plainRow 60 3600 600
  | 0x05 => plainRow 0 120 30
  | 0x06 => plainRow 500 60000 12000
  | 0x07 => some ⟨0, 2160, 168, 24⟩
  | 0x08 => plainRow 1 720 24
  | 0x09 => plainRow 0 4095 4095
  | _ => none

/-- R94, group 0x04. -/
def generatorRow (o : Nat) : Option SettingRow :=
  match o with
  | 0x00 => plainRow 0 30 5
  | 0x01 => plainRow 3 15 8
  | 0x02 => plainRow 5 60 15
  | 0x03 => plainRow 1 5 3
  | 0x04 => plainRow 0 600 120
  | 0x05 => plainRow 0 60 20
  | 0x06 => plainRow 0 600 180
  | 0x07 => plainRow 10 240 60
  | 0x08 => plainRow 60 1440 480
  | 0x09 => plainRow 0 24 4
  | _ => none

/-- R117, group 0x05. -/
def runRow (o : Nat) : Option SettingRow :=
  match o with
  | 0x00 => plainRow 100 900 500
  | 0x01 => plainRow 200 1000 900
  | 0x02 => plainRow 4500 5100 4750
  | 0x03 => plainRow 0 60 14
  | 0x04 => plainRow 0 1439 1320
  | 0x05 => plainRow 0 1439 360
  | 0x06 => plainRow 0 900 350
  | 0x07 => plainRow 0 7 2
  | 0x08 => plainRow 0 1439 600
  | 0x09 => plainRow 5 60 15
  | 0x0A => plainRow 1 100 5
  | 0x0B => plainRow 1 100 2
  | 0x0C => plainRow 0 60000 20000
  | 0x0D => plainRow 0 20000 5000
  | 0x0E => plainRow 0 20000 0
  | _ => none

/-- R126, group 0x06. -/
def arbiterRow (o : Nat) : Option SettingRow :=
  match o with
  | 0x00 => plainRow 5400 6200 5900
  | 0x01 => plainRow 4500 5200 4800
  | 0x02 => plainRow 4400 5000 4700
  | 0x03 => plainRow 4200 4900 4600
  | 0x04 => plainRow 4000 4800 4400
  | 0x05 => plainRow 4600 5400 5000
  | 0x06 => plainRow 400 800 550
  | 0x07 => plainRow 300 700 450
  | 0x08 => plainRow 5 200 30
  | _ => none

/-- R146, group 0x07: severities at 0x01 to 0x29, latching at 0x41 to 0x69, masks at 0x81 to 0xA9, escalate_h. -/
def alarmRow (o : Nat) : Option SettingRow :=
  if o = 0xC0 then plainRow 0 72 4 else
  if o % 0x40 = 0 ∨ 41 < o % 0x40 then none else
  match o / 0x40 with
  | 0 => plainRow 0 3 (defaultSeverity.getD (o - 1) 0)
  | 1 => match pointType.getD (o - 0x41) 0 with
         | 2 => plainRow 1 1 1
         | t => plainRow 0 1 t
  | 2 => plainRow 0 1 0
  | _ => none

/-- R159, R18, R27, group 0x08. -/
def modeRow (o : Nat) : Option SettingRow :=
  match o with
  | 0x00 => some ⟨0, 3600, 600, 60⟩
  | 0x01 => plainRow 0 10000 1200
  | 0x20 => plainRow 0 2 0
  | 0x21 => plainRow 0 2 0
  | _ => if 0x10 ≤ o ∧ o < 0x20 then plainRow 0 1 (if o = 0x15 ∨ o = 0x16 then 1 else 0) else none

/-- R2, R14, group 0x09. -/
def measurementRow (o : Nat) : Option SettingRow :=
  if o = 0 then plainRow 1 1 1 else
  if o < 0x14 then plainRow 0 1 1 else
  if o = 0x14 then plainRow 300 600 450 else none

/-- Section 13.1: the row of an id, `none` for an id that names no setting. -/
def settingRow (id : Nat) : Option SettingRow :=
  match id / 256 with
  | 1 => accountingRow (id % 256)
  | 2 => regimeRow (id % 256)
  | 3 => shelfRow (id % 256)
  | 4 => generatorRow (id % 256)
  | 5 => runRow (id % 256)
  | 6 => arbiterRow (id % 256)
  | 7 => alarmRow (id % 256)
  | 8 => modeRow (id % 256)
  | 9 => measurementRow (id % 256)
  | _ => none

/-- The default of a setting; 0 for an id that names none. -/
def settingDefault (id : Nat) : Nat := match settingRow id with | some r => r.default | none => 0

/-- The value of a setting. -/
def getSetting (st : Settings) (id : Nat) : Nat :=
  match st with
  | [] => settingDefault id
  | (k, v) :: rest => if k = id then v else getSetting rest id

/-- The settings with `id` at `v`, in the form that lists no default and whose ids rise. -/
def putSetting (st : Settings) (id v : Nat) : Settings :=
  match st with
  | [] => if v = settingDefault id then [] else [(id, v)]
  | (k, x) :: rest =>
    if id < k then (if v = settingDefault id then (k, x) :: rest else (id, v) :: (k, x) :: rest)
    else if id = k then (if v = settingDefault id then rest else (id, v) :: rest)
    else (k, x) :: putSetting rest id v

/-- The form of the settings: ids strictly rising, no default listed. -/
def settingsWf : Settings → Bool
  | [] => true
  | (k, v) :: rest =>
    (v != settingDefault k) && (match rest with | [] => true | (k', _) :: _ => decide (k < k')) && settingsWf rest

/-- R173 step 5, R168: a written value taken at the nearest limit of the range; a value in the gap of a split range at
the bottom of the upper part. -/
def clampSetting (r : SettingRow) (v : Nat) : Nat :=
  if v ≠ 0 ∧ v < r.gap then r.gap else clampNat r.low r.high v

/-- A setting of string `n` by its offset (R30). -/
def stringSetting (st : Settings) (n : Fin 4) (offset : Nat) : Nat := getSetting st (0x0100 + 0x10 * n.val + offset)

/-- R60: sp_min ≤ float_v ≤ absorb_v ≤ eq_v ≤ sp_max, and test_v < sp_min. -/
def regimeRelation (st : Settings) : Bool :=
  decide (getSetting st 0x0205 ≤ getSetting st 0x0200) && decide (getSetting st 0x0200 ≤ getSetting st 0x0201) &&
  decide (getSetting st 0x0201 ≤ getSetting st 0x0202) && decide (getSetting st 0x0202 ≤ getSetting st 0x0206) &&
  decide (getSetting st 0x0203 < getSetting st 0x0205)

/-- R94: min_run_min ≤ max_run_min. -/
def runTimeRelation (st : Settings) : Bool := decide (getSetting st 0x0407 ≤ getSetting st 0x0408)

/-- R117: stop_soc > start_soc. -/
def socRelation (st : Settings) : Bool := decide (getSetting st 0x0500 < getSetting st 0x0501)

/-- R126: lvd_open < neld_open < lvd_warn < gen_start_v < bus_low, and lvd_reclose > neld_open. -/
def busRelation (st : Settings) : Bool :=
  decide (getSetting st 0x0604 < getSetting st 0x0603) && decide (getSetting st 0x0603 < getSetting st 0x0602) &&
  decide (getSetting st 0x0602 < getSetting st 0x0502) && decide (getSetting st 0x0502 < getSetting st 0x0601) &&
  decide (getSetting st 0x0603 < getSetting st 0x0605)

/-- R126: thermal_release < thermal_open. -/
def thermalRelation (st : Settings) : Bool := decide (getSetting st 0x0607 < getSetting st 0x0606)

/-- R173 step 6: the relation a setting takes part in holds of `st` (section 13.1). -/
def relationHolds (id : Nat) (st : Settings) : Bool :=
  if 0x0200 ≤ id ∧ id ≤ 0x0206 then regimeRelation st
  else if id = 0x0407 ∨ id = 0x0408 then runTimeRelation st
  else if id = 0x0500 ∨ id = 0x0501 then socRelation st
  else if id = 0x0502 ∨ (0x0600 ≤ id ∧ id ≤ 0x0605) then busRelation st
  else if id = 0x0606 ∨ id = 0x0607 then thermalRelation st
  else true

/-- Section 13.1: the ids of all 256 settings, rising. -/
def settingIds : List Nat :=
  ((List.range 0x0815).map (· + 0x0100)).filter (fun id => (settingRow id).isSome)

/-- R175: the CRC-16 over the stored values in id order (each value as two bytes, DESIGN CHOICE, notes/assumptions/19.md). -/
def settingsChecksum (st : Settings) : Word16 :=
  crc16 (settingIds.flatMap (fun id => bytes2 (getSetting st id)))

/-- R175: the stored copy's checksum is good. -/
def StoredCopy.good (c : StoredCopy) : Bool :=
  !c.incomplete && decide (c.checksum = settingsChecksum c.values)

/-- R176: the bytes under the checksum of the persistence record (DESIGN CHOICE, notes/assumptions/19.md). -/
def recordBytes (r : RecordItems) : List Byte :=
  r.strings.rows.flatMap (fun s => byte1 s.enrolled.toNat :: bytes4 s.q ++ bytes4 s.u ++ bytes4 s.sinceFull) ++
  r.runMinutes.rows.flatMap bytes4 ++ bytes4 r.rotMinutes ++ bytes4 r.estimate ++ bytes2 r.remaining

/-- R176: the persistence record's checksum is good. -/
def PersistRecord.good (r : PersistRecord) : Bool :=
  !r.incomplete && decide (r.checksum = crc16 (recordBytes r.items))

end Sys2Proof.Machine
end

