-- ==== Sys2Proof/Machine/Flags.lean ====
section
/-! DEFINITION. The conditions and figures formed from the state as it stands: what the manual calls "usable", "in
service", "healthy", "energized", "running detected", "source present", "effective severity", ATTN, and the plant
figures of R46. None is stored. -/

namespace Sys2Proof.Machine

/-- 00_scope.md, "Time": site seconds, a 32-bit count. -/
def State.siteSeconds (s : State) : Nat := s.ms / 1000 % Config.siteSecondsWrap

/-- The working value of a setting. -/
def State.setting (s : State) (id : Nat) : Nat := getSetting s.settings id

/-! ## Channels and watches -/

/-- R1: a channel is usable while its status is VALID or OVERRANGE. -/
def Channel.usable (c : Channel) : Bool := c.status == .valid || c.status == .overrange

/-- R1: the value a block reads: that of a usable channel, `none` otherwise. -/
def State.reads (s : State) (c : Fin 20) : Option Int :=
  if (s.meas.channels.get c).usable then (s.meas.channels.get c).value else none

/-- R12: the reading of a watch. -/
def Watch.reading (w : Watch) : Bool := w.state == .isTrue || w.state == .disarming

/-- R12: the reading of watch `k`. -/
def State.watch (s : State) (k : Fin 16) : Bool := (s.meas.watches.get k).reading

/-- A reading as a log detail: the value or NO DATA (R145). -/
def detailOf (v : Option Int) : Int := v.getD (-32768)

/-! ## Inputs, relays, strings -/

/-- R20: an input's active field. -/
def State.active (s : State) (i : Fin 16) : Bool := (s.inputs.get i).active

/-- R25: a relay's drive. -/
def State.relayOn (s : State) (r : Fin 14) : Bool := (s.relays.get r).energized

/-- R30: string `n` is enrolled. -/
def enrolledIn (st : Settings) (n : Fin 4) : Bool := decide (stringSetting st n 0 = 1)

/-- R30: string `n` is enrolled. -/
def State.enrolled (s : State) (n : Fin 4) : Bool := enrolledIn s.settings n

/-- R31: string `n` is in service: enrolled, driven closed, shown closed, and without its fault marker. -/
def State.inService (s : State) (n : Fin 4) : Bool :=
  s.enrolled n && !s.relayOn (rTarget (stringTarget n)) && s.active (iAux (stringTarget n)) && !(s.strings.get n).fault

/-- The strings in service, in index order. -/
def State.serviceSet (s : State) : List (Fin 4) := (indices 4).filter s.inService

/-- The smallest of some figures, `none` of none. -/
def leastOf : List Nat → Option Nat
  | [] => none
  | a :: rest => some (rest.foldl min a)

/-- The largest of some figures, `none` of none. -/
def greatestOf : List Nat → Option Nat
  | [] => none
  | a :: rest => some (rest.foldl max a)

/-- R46: the minimum SOC over the strings in service. -/
def State.minSoc (s : State) : Option Nat := leastOf (s.serviceSet.map fun n => (s.strings.get n).soc)

/-- R46: the minimum SOC_c over the strings in service. -/
def State.minSocC (s : State) : Option Nat := leastOf (s.serviceSet.map fun n => (s.strings.get n).socC)

/-- R46: the maximum time_since_full over the strings in service. -/
def State.maxSinceFull (s : State) : Option Nat := greatestOf (s.serviceSet.map fun n => (s.strings.get n).sinceFull)

/-- R46: every string in service carries the full marker; false with none in service. -/
def State.allFull (s : State) : Bool := !s.serviceSet.isEmpty && s.serviceSet.all fun n => (s.strings.get n).full

/-- R46: some string in service lacks the full marker. -/
def State.anyNotFull (s : State) : Bool := s.serviceSet.any fun n => !(s.strings.get n).full

/-! ## Slots -/

/-- R134: an operation record is occupied while it is RUNNING or STOPPING. -/
def OpRec.occupied (r : OpRec) : Bool := r.state == .running || r.state == .stopping

/-- R134: slot `k` is occupied. -/
def State.occupied (s : State) (k : Fin 4) : Bool := match s.slots.get k with | some r => r.occupied | none => false

/-- Slot `k` is RUNNING. -/
def State.slotRunning (s : State) (k : Fin 4) : Bool :=
  match s.slots.get k with | some r => r.state == .running | none => false

/-- R154: slot `k` is DONE and unread. -/
def State.slotUnread (s : State) (k : Fin 4) : Bool :=
  match s.slots.get k with | some r => r.state == .done && r.unread | none => false

/-! ## Generator and source -/

/-- R93: the controller is in ONLOAD, in any sub-phase. -/
def GenState.onload : GenState → Bool
  | .onloadWalkin => true
  | .onloadRunning => true
  | .onloadUnloading => true
  | _ => false

/-- R105: a state other than OFF and LOCKOUT. -/
def GenState.inRun (g : GenState) : Bool := g != .off && g != .lockout

/-- R93: running detected. Where GEN_F ceases to be usable by a write of chan_en (R2) it changes at the write (DESIGN CHOICE,
notes/assumptions/58.md). -/
def State.running (s : State) : Bool :=
  s.active iGenRunning || (match s.reads cGenF with | some f => decide (4000 ≤ f) | none => false)

/-- R100: FAULT_INPUT. -/
def State.faultInput (s : State) : Bool := s.active iLowOil || s.active iHighTemp

/-- R97: both generator watches read TRUE. -/
def State.genWatches (s : State) : Bool := s.watch wGenV && s.watch wGenF

/-- R90: both grid watches read TRUE. -/
def State.gridWatches (s : State) : Bool := s.watch wGridV && s.watch wGridF

/-- R51: a source is present. -/
def State.sourcePresent (s : State) : Bool := s.mains.source == .grid || s.gen.state.onload

/-- R92: the present source, from what stands. -/
def State.formedSource (s : State) : Source :=
  if s.mains.qualified && !s.relayOn rMainsBreak then .grid
  else if s.gen.state.onload && s.relayOn rGenMake then .generator
  else .none

/-! ## Charge regime -/

/-- R62: the charge current allowance. -/
def State.allowance (s : State) : Nat :=
  match s.charge.regime with
  | .noSource => 0
  | .test => 0
  | _ => (s.serviceSet.map fun n => stringSetting s.settings n 7).sum

/-- R85: the voltage setpoint the shelf sends: the test's while the TEST slot is RUNNING and the regime is TEST, limited
to test_v to sp_max; the regime's at every other moment. -/
def State.sentSetpoint (s : State) : Int :=
  if s.slotRunning sTest && s.charge.regime == .test then
    clampInt (s.setting 0x0203) (s.setting 0x0206) s.test.setpoint
  else s.charge.setpoint

/-! ## Shelf -/

/-- R81: position `p` is in the enrolled mask. -/
def State.moduleEnrolled (s : State) (p : Fin 12) : Bool := maskNames (s.setting 0x0309) p.val

/-- R71: a healthy module. -/
def ModuleState.healthy : ModuleState → Bool
  | .standby => true
  | .starting => true
  | .online => true
  | _ => false

/-- R71: an energized module. -/
def ModuleState.energized : ModuleState → Bool
  | .starting => true
  | .online => true
  | _ => false

/-- The state of the module at `p`. -/
def State.moduleState (s : State) (p : Fin 12) : ModuleState := (s.shelf.modules.get p).state

/-- R71: the healthy count, over the enrolled positions. -/
def State.healthyCount (s : State) : Nat :=
  ((indices 12).filter fun p => s.moduleEnrolled p && (s.moduleState p).healthy).length

/-- R71: the energized positions, in position order. -/
def State.energizedSet (s : State) : List (Fin 12) :=
  (indices 12).filter fun p => s.moduleEnrolled p && (s.moduleState p).energized

/-- R71: the energized count. -/
def State.energizedCount (s : State) : Nat := s.energizedSet.length

/-- The position with the least figure among `ps`, ties to the lowest. -/
def leastBy (f : Fin 12 → Nat) : List (Fin 12) → Option (Fin 12)
  | [] => none
  | p :: rest =>
    match leastBy f rest with
    | some q => if f q < f p then some q else some p
    | none => some p

/-- The position with the greatest figure among `ps`, ties to the lowest. -/
def greatestBy (f : Fin 12 → Nat) : List (Fin 12) → Option (Fin 12)
  | [] => none
  | p :: rest =>
    match greatestBy f rest with
    | some q => if f p < f q then some q else some p
    | none => some p

/-- The run minutes of position `p`. -/
def State.runMinutes (s : State) (p : Fin 12) : Nat := (s.shelf.modules.get p).runMinutes

/-- R80, R86: the STANDBY module with the fewest run_minutes, ties to the lowest position. -/
def State.leastWornStandby (s : State) : Option (Fin 12) :=
  leastBy s.runMinutes ((indices 12).filter fun p => s.moduleState p == .standby)

/-- R80, R86: the ONLINE module with the most run_minutes, ties to the lowest position. -/
def State.mostWornOnline (s : State) : Option (Fin 12) :=
  greatestBy s.runMinutes ((indices 12).filter fun p => s.moduleState p == .online)

/-- R84: the ramp's value at its last step taken. -/
def Ramp.value (r : Ramp) : Int := r.l0 + truncDiv ((r.l1 - r.l0) * r.step) 16

/-- R81: the figures of the working settings, which take effect at the next poll cycle completion. -/
def State.shelfFigures (s : State) : ShelfFigures :=
  ⟨s.setting 0x0300, s.setting 0x0301, s.setting 0x0302, s.setting 0x0303, s.setting 0x0306⟩

/-- R82: the target, from a demand and the energized count and source as they stand, by the figures in force (R81). -/
def State.formedTarget (s : State) (demand : Nat) : Nat :=
  let t := min demand (s.energizedCount * s.shelf.inForce.rating)
  if s.mains.source == .generator then min t s.shelf.inForce.genLimit else t

/-! ## Contactors -/

/-- R129: the auxiliary input of target `t` agrees with its drive. -/
def State.agrees (s : State) (t : Fin 5) : Bool :=
  s.active (iAux t) == ((s.targets.get t).drive == .closed)

/-- R121: what the SERVICE claim says on target `t`. -/
def State.serviceSays (s : State) (t : Fin 5) : Drive :=
  if h : t.val < 4 then
    (if s.enrolled ⟨t.val, h⟩ && !(s.strings.get ⟨t.val, h⟩).fault then .closed else .opened)
  else .closed

/-! ## Alarms -/

/-- R146: the severity of a code. -/
def severityOf : Nat → Severity
  | 0 => .critical
  | 1 => .major
  | 2 => .minor
  | _ => .warning

/-- R146: the severity setting of point `p`. -/
def State.severity (s : State) (p : Fin 41) : Severity := severityOf (s.setting (0x0701 + p.val))

/-- R146: the latching setting of point `p`. -/
def State.latching (s : State) (p : Fin 41) : Bool := decide (s.setting (0x0741 + p.val) = 1)

/-- R146: point `p` is masked. -/
def State.masked (s : State) (p : Fin 41) : Bool := decide (s.setting (0x0781 + p.val) = 1)

/-- R145: point `p` is an event point. -/
def isEventPoint (p : Fin 41) : Bool := decide (pointType.getD p.val 0 = 2)

/-- R145: the effective condition of a point. -/
def Point.effective (p : Point) : Bool := p.raw || p.proof

/-- R150: the effective severity of point `p`: a MAJOR point counts as CRITICAL while it is escalated. -/
def State.effectiveSeverity (s : State) (p : Fin 41) : Severity :=
  if s.severity p == .major && (s.points.get p).escalated then .critical else s.severity p

/-- R154: some unmasked point of effective severity `v` stands in RAISED, HELD or LATCHED. -/
def State.severityStands (s : State) (v : Severity) : Bool :=
  (indices 41).any fun p => !s.masked p && s.effectiveSeverity p == v && (s.points.get p).state != .normal

/-- R154: ATTN: some unmasked point stands in RAISED or LATCHED, or some slot is DONE and unread. -/
def State.attn (s : State) : Bool :=
  ((indices 41).any fun p => !s.masked p && ((s.points.get p).state == .raised || (s.points.get p).state == .latched)) ||
  (indices 4).any s.slotUnread

/-! ## Run decisions -/

/-- R109: minute `m` lies inside the quiet window from `a` to `b`. -/
def insideWindow (a b m : Nat) : Bool :=
  if a < b then decide (a ≤ m ∧ m < b) else if b < a then decide (a ≤ m ∨ m < b) else false

/-- R109: the time of day lies inside the quiet window; never while the clock is unset. -/
def State.quiet (s : State) : Bool :=
  match s.clock with
  | some c => insideWindow (s.setting 0x0504) (s.setting 0x0505) c.minute
  | none => false

/-- R109: the mode is HOLD and the allowance remaining is 0. -/
def State.allowanceSpent (s : State) : Bool := s.mode.mode == .hold && decide (s.mode.remaining = 0)

/-- R166: the line rate of the straps. -/
def Straps.rate (t : Straps) : Nat :=
  match t.first, t.second with
  | false, false => 9600
  | true, false => 19200
  | false, true => 38400
  | true, true => 57600

/-- What is left of a timer, in ms; 0 when it is stopped. -/
def State.leftMs (s : State) (t : Option Timer) : Nat := match t with | some t => t.due - s.ms | none => 0

end Sys2Proof.Machine
end

