-- ==== Sys2Proof/Machine/Ops.lean ====
section
/-! DEFINITION. The named operations that every block shares: the queue of consequences of one command, time, the event
log (R155), the relays (R25), the alarm points (R147 to R150, R154) and the operation table (R134).

A command runs on a `Work`: the state and the consequences still to be taken within the same command. A block changes
its own state at once and raises an `Event` for the blocks that act on the change (00_scope.md, "Events"); the events
are taken in Machine/Settle.lean, none is left when the command ends. -/

namespace Sys2Proof.Machine

/-- What a block's change hands to the blocks that act on it, within one command. -/
inductive Event where
  /-- a point's state changed (R147) -/
  | pointMoved (p : Fin 41)
  /-- a generator state change (R93) -/
  | genMoved
  /-- the generator controller looks at what it supervises (R93, R96, R97, R100, R102) -/
  | engine
  /-- LOCKOUT is tested for its exit (R104) -/
  | lockoutCheck
  /-- a grid state change (R90) -/
  | gridMoved
  /-- the blocks other than the source supervisor act on a grid state change (R90) -/
  | gridActs
  /-- string `n` left service (R31) -/
  | leftService (n : Fin 4)
  /-- the full marker of string `n`, in service, was cleared (R53) -/
  | markerCleared
  /-- a THERMAL claim was asserted on string `n` (R142) -/
  | thermalAsserted (n : Fin 4)
  /-- the LVD stage changed (R142) -/
  | lvdMoved
  /-- string `n`'s phase changed (R122) -/
  | phaseMoved (n : Fin 4)
  /-- an evaluation that started a run goes on after the start (R107) -/
  | evaluationEnd (r : Reason)
  /-- the shelf reports the end of a walk-in (R84) -/
  | walkinEnded
  /-- the shelf reports the end of an unload (R84) -/
  | unloadEnded
deriving DecidableEq, Repr

/-- The state in the course of one command, with the events raised and not yet taken, in the order raised. -/
structure Work extends State where
  agenda : List Event
deriving DecidableEq, Repr

/-- Raises an event. -/
def raise (e : Event) (w : Work) : Work := { w with agenda := w.agenda ++ [e] }

/-- `f` when `c` holds, nothing otherwise. -/
def onlyIf (c : Bool) (f : Work → Work) (w : Work) : Work := if c then f w else w

/-- `f a` for each `a` of the list, in order. -/
def forEach {α : Type} (l : List α) (f : α → Work → Work) (w : Work) : Work := l.foldl (fun v a => f a v) w

/-! ## Time -/

/-- An event paced by the part's own time falls at its due moment: the part's time is at least `t` (DESIGN CHOICE, notes/assumptions/2.md). -/
def reachMs (t : Nat) (w : Work) : Work := { w with ms := max w.ms t }

/-- A timer started now that expires `d` ms later. -/
def State.timerMs (s : State) (d : Nat) : Timer := ⟨s.ms, s.ms + d⟩

/-- A timer started now that expires `n` seconds later. -/
def State.timerS (s : State) (n : Nat) : Timer := s.timerMs (n * 1000)

/-- The expiry of a running timer: time reaches its due moment and `f` acts. A stopped timer does not expire
(DESIGN CHOICE, notes/assumptions/1.md). -/
def atExpiry (t : Option Timer) (f : Work → Work) (w : Work) : Work :=
  match t with
  | some t => f (reachMs t.due w)
  | none => w

/-! ## The event log (R155) -/

/-- The newest sequence held; 0 for an empty log. -/
def newestSeq (log : List LogEntry) : Nat := match log.getLast? with | some e => e.seq | none => 0

/-- The oldest sequence held; 0 for an empty log. -/
def oldestSeq (log : List LogEntry) : Nat := match log.head? with | some e => e.seq | none => 0

/-- R155: the log with one more entry: the next sequence, the oldest dropped when 512 are held, and emptied first when
the newest sequence is the last. -/
def logAppend (log : List LogEntry) (stamp : Nat) (kind : LogKind) (subject : Nat) (origin : Origin)
    (detail : Option Int) : List LogEntry :=
  if newestSeq log = Config.lastSequence then [⟨1, stamp, kind, subject, origin, detail⟩]
  else log.drop (log.length + 1 - Config.logSize) ++ [⟨newestSeq log + 1, stamp, kind, subject, origin, detail⟩]

/-- Writes an entry, stamped with the present site seconds. -/
def writeLog (kind : LogKind) (subject : Nat) (origin : Origin) (detail : Option Int) (w : Work) : Work :=
  { w with log := logAppend w.log w.siteSeconds kind subject origin detail }

/-! ## The relays (R25) -/

/-- Drives a relay. A drive it already has changes neither field. -/
def setRelay (r : Fin 14) (on : Bool) (w : Work) : Work :=
  if w.relayOn r == on then w else { w with relays := w.relays.set r ⟨on, w.siteSeconds⟩ }

/-! ## The alarm points -/

/-- R154: forms the three severity relays; before the first scan completion after a restart they stay as they are. -/
def formSeverityRelays (w : Work) : Work :=
  if w.relaysFormed then
    let crit := !w.severityStands .critical
    let maj := !w.severityStands .major
    let min := !w.severityStands .minor
    w |> setRelay rAlmCrit crit |> setRelay rAlmMaj maj |> setRelay rAlmMin min
  else w

/-- R150: the escalation timer of a point that is RAISED now: running for a MAJOR point while escalate_h is above 0. -/
def State.escalationTimer (s : State) (p : Fin 41) : Option Timer :=
  if s.severity p == .major && decide (0 < s.setting 0x07C0) then some (s.timerS (s.setting 0x07C0 * 3600)) else none

/-- Changes a point's state. R150: on entry to RAISED the escalation timer starts, on leaving it the timer and the
escalation end. The relays are formed (R154) and the change is handed on (R147). -/
def movePoint (p : Fin 41) (st : PointState) (w : Work) : Work :=
  let pt := w.points.get p
  let pt' : Point :=
    { pt with
      state := st
      escalated := false
      timer := if st == .raised then w.escalationTimer p else none
      raisedAt := if st == .raised then w.ms else pt.raisedAt }
  { w with points := w.points.set p pt' } |> formSeverityRelays |> raise (.pointMoved p)

/-- R145: an activation, masked or not. -/
def activate (p : Fin 41) (w : Work) : Work :=
  let pt := w.points.get p
  let pt' : Point :=
    { pt with
      count := min 255 (pt.count + 1)
      first := if pt.count = 0 then w.siteSeconds else pt.first
      last := w.siteSeconds }
  { w with points := w.points.set p pt' }

/-- R148: the effective condition of point `p` became true. -/
def conditionRose (p : Fin 41) (origin : Origin) (detail : Option Int) (w : Work) : Work :=
  let w := activate p w
  if w.masked p then w else
  match (w.points.get p).state with
  | .normal => w |> writeLog .alarmRaised (p.val + 1) origin detail |> movePoint p .raised
  | .latched => w |> writeLog .alarmRaised (p.val + 1) origin detail |> movePoint p .raised
  | .raised => w
  | .held => w

/-- R148: the effective condition of point `p` became false. -/
def conditionFell (p : Fin 41) (detail : Option Int) (w : Work) : Work :=
  if w.masked p then w else
  match (w.points.get p).state with
  | .raised =>
    if w.latching p then w |> writeLog .alarmLatched (p.val + 1) .part detail |> movePoint p .latched
    else w |> writeLog .alarmNormal (p.val + 1) .part detail |> movePoint p .normal
  | .held => w |> writeLog .alarmNormal (p.val + 1) .part detail |> movePoint p .normal
  | .normal => w
  | .latched => w

/-- R147: an owner hands a point's raw condition, with a detail. A condition equal to the one held changes nothing. -/
def handCondition (p : Fin 41) (raw : Bool) (detail : Int) (w : Work) : Work :=
  let pt := w.points.get p
  if pt.raw == raw then w else
  let w' : Work := { w with points := w.points.set p { pt with raw := raw } }
  if pt.effective == (raw || pt.proof) then w'
  else if raw then conditionRose p .part (some detail) w'
  else conditionFell p (some detail) w'

/-- An owner hands a raw condition for whose change the manual gives no detail: the detail is a free value
(DESIGN CHOICE, notes/assumptions/15.md). -/
def handConditionFree (p : Fin 41) (raw : Bool) (w : Work) : Work :=
  if (w.points.get p).raw == raw then w else
  { handCondition p raw (Config.freeDetail w.fresh).toInt w with fresh := w.fresh + 1 }

/-- R148: an event point is given a momentary condition: one activation, one ALARM_RAISED entry, and LATCHED. -/
def momentary (p : Fin 41) (origin : Origin) (detail : Int) (w : Work) : Work :=
  let w := activate p w
  if w.masked p then w
  else w |> writeLog .alarmRaised (p.val + 1) origin (some detail) |> movePoint p .latched

/-- R148: the point becomes NORMAL by ACKNOWLEDGE, CLEAR, a mask (origin HOST) or the retry (origin AUTO). -/
def makeNormal (p : Fin 41) (origin : Origin) (w : Work) : Work :=
  if (w.points.get p).state == .normal then w
  else w |> writeLog .alarmNormal (p.val + 1) origin none |> movePoint p .normal

/-! ## The operation table (R133, R134) -/

/-- R133: the kind code. -/
def OpKind.code : OpKind → Nat
  | .run => 1 | .exercise => 2 | .equalize => 3 | .dischargeTest => 4 | .rotate => 5

/-- R133: the termination code. -/
def Termination.code : Termination → Nat
  | .completed => 1 | .stopped => 2 | .aborted => 3

/-- R133: the cause code. -/
def Cause.code : Cause → Nat
  | .none => 0 | .sourceChanged => 1 | .fault => 2 | .thermal => 3 | .lowVoltage => 4 | .hostSilent => 5
  | .restart => 6 | .allowance => 7 | .generatorStart => 8

/-- R134, R135 step 8: an operation begins in slot `k`: the new record replaces the old, with its OP_BEGIN entry. -/
def beginOp (k : Fin 4) (kind : OpKind) (origin : Origin) (reason : Option Reason) (args : List Nat) (w : Work) : Work :=
  let r : OpRec :=
    { state := .running, kind := kind, origin := origin, reason := reason, modeAtBegin := w.mode.mode,
      beginStamp := w.siteSeconds, args := args, termination := none, cause := none, doneStamp := 0,
      result := none, unread := false }
  { w with slots := w.slots.set k (some r) }
  |> writeLog .opBegin k.val origin (some kind.code)

/-- Changes the record of slot `k`, if it holds one. -/
def changeOp (k : Fin 4) (f : OpRec → OpRec) (w : Work) : Work :=
  match w.slots.get k with
  | some r => { w with slots := w.slots.set k (some (f r)) }
  | none => w

/-- R134: an occupied slot is STOPPING, with the termination and cause given. -/
def stopOp (k : Fin 4) (t : Termination) (c : Cause) (w : Work) : Work :=
  changeOp k (fun r => if r.occupied then { r with state := .stopping, termination := some t, cause := some c } else r) w

/-- R134: the owner reports the end of an occupied operation: DONE, unread, with its OP_END entry. -/
def finishOp (k : Fin 4) (t : Termination) (c : Cause) (result : OpResult) (w : Work) : Work :=
  if w.occupied k then
    changeOp k (fun r => { r with
        state := .done, termination := some t, cause := some c, doneStamp := w.siteSeconds,
        result := some result, unread := true }) w
    |> writeLog .opEnd k.val (if t == .stopped then .host else .part) (some (t.code * 100 + c.code : Nat))
  else w

end Sys2Proof.Machine
end

