-- ==== Sys2Proof/Machine/Measurement.lean ====
section
/-! DEFINITION. The measurement scanner (01_measurement.md): conversion, ages, rate histories, watches, the SENSOR_FAULT
condition, and enablement. -/

namespace Sys2Proof.Machine

/-- R1: the converter range of a channel. -/
def converterRange (c : Fin 20) : Int × Int :=
  match c.val with
  | 0 => (0, 6500)
  | 1 => (0, 30000)
  | 2 => (0, 6500) | 3 => (0, 6500) | 4 => (0, 6500) | 5 => (0, 6500)
  | 6 => (-32000, 32000) | 7 => (-32000, 32000) | 8 => (-32000, 32000) | 9 => (-32000, 32000)
  | 10 => (-400, 900) | 11 => (-400, 900) | 12 => (-400, 900) | 13 => (-400, 900) | 14 => (-400, 900)
  | 15 => (0, 3000)
  | 16 => (0, 7000)
  | 17 => (0, 3000)
  | 18 => (0, 7000)
  | _ => (0, 20000)

/-- R1: the plausible range of a channel. -/
def plausibleRange (c : Fin 20) : Int × Int :=
  match c.val with
  | 0 => (3000, 6500)
  | 2 => (3000, 6500) | 3 => (3000, 6500) | 4 => (3000, 6500) | 5 => (3000, 6500)
  | 10 => (-300, 850) | 11 => (-300, 850) | 12 => (-300, 850) | 13 => (-300, 850) | 14 => (-300, 850)
  | _ => converterRange c

/-- R4: the value and status a raw reading gives: saturation, then plausibility. -/
def convert (c : Fin 20) (raw : Int) : Option Int × ChanStatus :=
  let r := converterRange c
  let p := plausibleRange c
  let v := clampInt r.1 r.2 raw
  if v < p.1 ∨ p.2 < v then (none, .faulty)
  else if v = raw then (some v, .valid)
  else (some v, .overrange)

/-- The string whose enrolment a channel's enablement needs (R2). -/
def channelString (c : Fin 20) : Option (Fin 4) :=
  if 2 ≤ c.val ∧ c.val ≤ 13 then some ⟨(c.val - 2) % 4, by omega⟩ else none

/-- R2: channel `c` is enabled under the settings. -/
def channelEnabled (st : Settings) (c : Fin 20) : Bool :=
  decide (getSetting st (0x0900 + c.val) = 1) &&
  (match channelString c with | some n => enrolledIn st n | none => true)

/-- R4, R5: a channel's record after a scan completion. -/
def scanChannel (st : Settings) (c : Fin 20) (old : Channel) (raw : Int) : Channel :=
  if channelEnabled st c then
    let r := convert c raw
    if r.2 == .faulty then ⟨none, .faulty, min 65535 (old.age + 1)⟩ else ⟨r.1, r.2, 0⟩
  else ⟨none, .disabled, 65535⟩

/-- R8: the rate of a ring: newest minus oldest of 11 samples, neither NO DATA. -/
def ringRate (ring : List (Option Int)) : Option Int :=
  if ring.length = 11 then
    match ring.head?, ring.getLast? with
    | some (some a), some (some b) => some (b - a)
    | _, _ => none
  else none

/-- R7, R8: a history after a sampling completion. -/
def takeSample (h : RateHistory) (v : Option Int) : RateHistory :=
  let ring := (if h.ring.length = 11 then h.ring.drop 1 else h.ring) ++ [v]
  ⟨ring, ringRate ring⟩

/-- R1, R7: the channel of rate history `r`: STR_T1 to STR_T4 and AMB_T. -/
def rateChannel (r : Fin 5) : Fin 20 := ⟨10 + r.val, by omega⟩

/-- The value other blocks read from a channel record. -/
def Channel.reads (c : Channel) : Option Int := if c.usable then c.value else none

/-! ## Watches -/

/-- R9: a watch's sense. -/
inductive Sense where
  | above | below | inside
deriving DecidableEq, Repr

/-- R9, R14: what a watch compares, and its delays in seconds. For INSIDE the levels are the low and the high level. -/
structure WatchSpec where
  channel : Fin 20
  sense : Sense
  setLevel : Int
  clearLevel : Int
  setDelay : Nat
  clearDelay : Nat
deriving DecidableEq, Repr

/-- R14: the sixteen watches, their levels from the working settings (R13). -/
def watchSpec (st : Settings) (k : Fin 16) : WatchSpec :=
  match k.val with
  | 0 => ⟨cBusV, .above, getSetting st 0x0600, getSetting st 0x0600 - 50, 5, 5⟩
  | 1 => ⟨cBusV, .below, getSetting st 0x0601, getSetting st 0x0601 + 50, 5, 5⟩
  | 2 => ⟨cBusV, .below, getSetting st 0x0502, getSetting st 0x0502 + 100, 60, 10⟩
  | 3 => ⟨cBusV, .below, getSetting st 0x0602, getSetting st 0x0602 + 50, 10, 10⟩
  | 4 => ⟨cBusV, .below, getSetting st 0x0603, getSetting st 0x0603 + 100, 30, 0⟩
  | 5 => ⟨cBusV, .below, getSetting st 0x0604, getSetting st 0x0604 + 100, 30, 0⟩
  | 6 => ⟨cBusV, .above, getSetting st 0x0605, getSetting st 0x0605 - 100, 10, 0⟩
  | 7 => ⟨cGridV, .inside, 1900, 2600, 60, 2⟩
  | 8 => ⟨cGridF, .inside, 4700, 5300, 60, 2⟩
  | 9 => ⟨cGenV, .inside, 1900, 2600, 5, 3⟩
  | 10 => ⟨cGenF, .inside, 4700, 5300, 5, 3⟩
  | 11 => ⟨cStrT 0, .above, getSetting st 0x0914, getSetting st 0x0914 - 30, 60, 60⟩
  | 12 => ⟨cStrT 1, .above, getSetting st 0x0914, getSetting st 0x0914 - 30, 60, 60⟩
  | 13 => ⟨cStrT 2, .above, getSetting st 0x0914, getSetting st 0x0914 - 30, 60, 60⟩
  | 14 => ⟨cStrT 3, .above, getSetting st 0x0914, getSetting st 0x0914 - 30, 60, 60⟩
  | _ => ⟨cAmbT, .above, 450, 420, 60, 60⟩

/-- R9: the set comparison. -/
def WatchSpec.sets (s : WatchSpec) (v : Int) : Bool :=
  match s.sense with
  | .above => decide (s.setLevel ≤ v)
  | .below => decide (v ≤ s.setLevel)
  | .inside => decide (s.setLevel ≤ v ∧ v ≤ s.clearLevel)

/-- R9: the clear comparison. -/
def WatchSpec.clears (s : WatchSpec) (v : Int) : Bool :=
  match s.sense with
  | .above => decide (v ≤ s.clearLevel)
  | .below => decide (s.clearLevel ≤ v)
  | .inside => decide (v < s.setLevel - 10 ∨ s.clearLevel + 10 < v)

/-- R10: a watch after a scan completion at which its channel is usable and reads `v`. -/
def evalWatch (s : WatchSpec) (w : Watch) (v : Int) : Watch :=
  match w.state with
  | .isFalse => if s.sets v then (if s.setDelay = 0 then ⟨.isTrue, 0⟩ else ⟨.arming, 0⟩) else ⟨.isFalse, 0⟩
  | .arming =>
    if s.sets v then (if s.setDelay ≤ w.elapsed + 1 then ⟨.isTrue, 0⟩ else ⟨.arming, w.elapsed + 1⟩) else ⟨.isFalse, 0⟩
  | .isTrue => if s.clears v then (if s.clearDelay = 0 then ⟨.isFalse, 0⟩ else ⟨.disarming, 0⟩) else ⟨.isTrue, 0⟩
  | .disarming =>
    if s.clears v then (if s.clearDelay ≤ w.elapsed + 1 then ⟨.isFalse, 0⟩ else ⟨.disarming, w.elapsed + 1⟩)
    else ⟨.isTrue, 0⟩

/-- R10, R11: a watch after a scan completion; a watch on a channel that is not usable holds, one on a disabled channel
is FALSE. -/
def scanWatch (st : Settings) (channels : Table Channel 20) (k : Fin 16) (w : Watch) : Watch :=
  let s := watchSpec st k
  let c := channels.get s.channel
  match c.reads with
  | some v => evalWatch s w v
  | none => if c.status == .disabled then ⟨.isFalse, 0⟩ else w

/-- R3 steps 1 to 4: the records after a scan completion with these raw readings. -/
def scanRecords (st : Settings) (m : Measurement) (raw : Table Int 20) : Measurement :=
  let k := m.scanCount + 1
  let channels := Table.ofFn fun c => scanChannel st c (m.channels.get c) (raw.get c)
  let rates :=
    if k % 60 = 1 then Table.ofFn fun r => takeSample (m.rates.get r) (channels.get (rateChannel r)).reads else m.rates
  ⟨channels, rates, Table.ofFn fun i => scanWatch st channels i (m.watches.get i), k⟩

/-! ## The SENSOR_FAULT condition (R6) -/

/-- R6: some enabled channel is FAULTY. -/
def someFaulty (channels : Table Channel 20) : Bool := (indices 20).any fun c => (channels.get c).status == .faulty

/-- R6: the lowest channel that is FAULTY in `a` and not in `b`; 0 when there is none. -/
def firstFaultyIn (a b : Table Channel 20) : Nat :=
  match (indices 20).find? fun c => (a.get c).status == .faulty && (b.get c).status != .faulty with
  | some c => c.val
  | none => 0

/-- R6: forms the SENSOR_FAULT condition after the channel records went from `before` to what stands. -/
def formSensorFault (before : Table Channel 20) (w : Work) : Work :=
  let now := w.meas.channels
  if someFaulty now then handCondition pSensorFault true (firstFaultyIn now before) w
  else handCondition pSensorFault false (firstFaultyIn before now) w

/-- R3: the scanner's own work at a scan completion, which falls at the site second of its count. -/
def scannerWork (raw : Table Int 20) (w : Work) : Work :=
  let before := w.meas.channels
  let w : Work := { w with meas := scanRecords w.settings w.meas raw }
  w |> reachMs (w.meas.scanCount * 1000) |> formSensorFault before

/-- R14, R145: the conditions of points 1 to 3 and 10 to 13, from the watch readings, in the order of their ids (DESIGN CHOICE,
notes/assumptions/65.md). -/
def handWatchPoints (w : Work) : Work :=
  let bus := detailOf (w.reads cBusV)
  w |> handCondition pBusHigh (w.watch wBusHigh) bus
    |> handCondition pBusLow (w.watch wBusLow) bus
    |> handCondition pLvdWarn (w.watch wLvdWarn) bus
    |> forEach (indices 4) fun n v =>
         handCondition (pStringHot n) (v.watch (wStrHot n)) (detailOf (v.reads (cStrT n))) v

/-! ## Enablement (R2) -/

/-- R2: a channel whose enablement changed to `on`. -/
def changedChannel (on : Bool) : Channel := ⟨none, if on then .noData else .disabled, 65535⟩

/-- R2: the records after the settings went from `old` to `st`: a channel whose enablement changed is reset, its
history emptied, and when it became disabled its watches return to FALSE. -/
def enableRecords (old st : Settings) (m : Measurement) : Measurement :=
  let moved := fun c => channelEnabled old c != channelEnabled st c
  let channels := Table.ofFn fun c => if moved c then changedChannel (channelEnabled st c) else m.channels.get c
  let rates := Table.ofFn fun r => if moved (rateChannel r) then ⟨[], none⟩ else m.rates.get r
  let watches := Table.ofFn fun k =>
    let c := (watchSpec st k).channel
    if moved c && !channelEnabled st c then ⟨.isFalse, 0⟩ else m.watches.get k
  ⟨channels, rates, watches, m.scanCount⟩

/-- R16: the records after a restart, under the settings. -/
def restartRecords (st : Settings) : Measurement :=
  ⟨Table.ofFn fun c => changedChannel (channelEnabled st c), Table.fill 5 ⟨[], none⟩,
   Table.fill 16 ⟨.isFalse, 0⟩, 0⟩

end Sys2Proof.Machine
end

