-- ==== Sys2Proof/Machine/Arbiter.lean ====
section
/-! DEFINITION. The contactor arbiter (08_contactor_claims_and_protection.md): the decision of a target, thermal isolation,
low-voltage disconnect, the hand and host claims, and the feedback check. -/

namespace Sys2Proof.Machine

/-! ## Service (R31) -/

/-- R31: hands on that strings left service between the state `before` and what stands. -/
def noteService (before : State) (w : Work) : Work :=
  forEach (indices 4) (fun n v => onlyIf (before.inService n && !v.inService n) (raise (.leftService n)) v) w

/-! ## The decision (R120) -/

/-- R120: a claimant's priority. -/
def Claimant.priority : Claimant → Nat
  | .thermal => 5 | .lvd => 4 | .hand => 3 | .host => 2 | .service => 1

/-- R120: the asserted claim of highest priority, and the drive it gives; HOLD gives the present drive. -/
def Target.decision (r : Target) : Claimant × Drive :=
  if r.thermal then (.thermal, .opened)
  else if r.lvd then (.lvd, .opened)
  else if r.hand then (.hand, r.drive)
  else match r.host with
    | some d => (.host, d)
    | none => (.service, r.service)

/-- R129: the feedback timer, started now. -/
def State.feedbackTimer (s : State) : Option Timer := some (s.timerMs Config.feedbackMs)

/-- R120, R129: target `r` after its decision at the state `s`. -/
def decidedTarget (s : State) (r : Target) : Target :=
  let d := r.decision
  if d.2 == r.drive then
    { r with decider := d.1, timer := if r.check == .window then s.feedbackTimer else r.timer }
  else { r with drive := d.2, decider := d.1, check := .window, timer := s.feedbackTimer }

/-- R120: the detail of a CONTACTOR entry. -/
def contactorDetail (d : Claimant × Drive) : Int :=
  if d.2 == .opened then (d.1.priority : Int) else -(d.1.priority : Int)

/-- R120: decides target `t` from its claims as they stand. -/
def decideTarget (t : Fin 5) (w : Work) : Work :=
  let r := w.targets.get t
  let d := r.decision
  let w' : Work := { w with targets := w.targets.set t (decidedTarget w.toState r) }
  if d.2 == r.drive then w'
  else
    w' |> setRelay (rTarget t) (d.2 == .opened)
       |> writeLog .contactor (t.val + 1) (if d.1 == .host then .host else .part) (some (contactorDetail d))
       |> noteService w.toState

/-- Changes claims of target `t` and decides it. -/
def claim (t : Fin 5) (f : Target → Target) (w : Work) : Work :=
  { w with targets := w.targets.modify t f } |> decideTarget t

/-- R121: the SERVICE claim of target `t` is formed; the target is decided when it changed. -/
def formService (t : Fin 5) (w : Work) : Work :=
  let c := w.serviceSays t
  if (w.targets.get t).service == c then w else claim t (fun r => { r with service := c }) w

/-! ## Thermal isolation (R122, R123) -/

/-- R7: the rate of STR_Tn. -/
def State.stringRate (s : State) (n : Fin 4) : Option Int := (s.meas.rates.get n.castSucc).rate

/-- R122: the assertion tests of string `n`: the detail of an assertion, the temperature or the rate as a negative. -/
def State.thermalTest (s : State) (n : Fin 4) : Option Int :=
  if !s.enrolled n then none else
  let hot := match s.reads (cStrT n) with
    | some t => if (s.setting 0x0606 : Int) ≤ t then some t else none
    | none => none
  match hot with
  | some t => some t
  | none =>
    match s.stringRate n with
    | some r => if (s.setting 0x0608 : Int) ≤ r ∧ (s.strings.get n).phase = .charging then some (-r) else none
    | none => none

/-- R123: the release test of string `n`. -/
def State.thermalReleased (s : State) (n : Fin 4) : Bool :=
  (match s.reads (cStrT n) with | some t => decide (t ≤ (s.setting 0x0607 : Int)) | none => false) &&
  ((s.points.get (pStringThermal n)).state == .normal || (s.points.get (pStringThermal n)).state == .held)

/-- R122: the THERMAL claim on string `n` is asserted. -/
def assertThermal (n : Fin 4) (detail : Int) (w : Work) : Work :=
  w |> raise (.thermalAsserted n)
    |> handCondition (pStringThermal n) true detail
    |> claim (stringTarget n) fun r => { r with thermal := true }

/-- R122, R123: the THERMAL claim on string `n`, if asserted, is withdrawn: the target is decided, and then the point is handed
its condition (the order is DESIGN CHOICE, notes/assumptions/62.md). -/
def withdrawThermal (n : Fin 4) (w : Work) : Work :=
  if !(w.targets.get (stringTarget n)).thermal then w else
  w |> claim (stringTarget n) (fun r => { r with thermal := false })
    |> handConditionFree (pStringThermal n) false

/-- R122: the assertion tests of string `n`, if it has no claim. -/
def testThermal (n : Fin 4) (w : Work) : Work :=
  if (w.targets.get (stringTarget n)).thermal then w else
  match w.thermalTest n with | some d => assertThermal n d w | none => w

/-- R123: the release test of string `n`, if its claim is asserted. -/
def releaseThermal (n : Fin 4) (w : Work) : Work :=
  if (w.targets.get (stringTarget n)).thermal && w.thermalReleased n then withdrawThermal n w else w

/-- R122, R123: the thermal tests of a scan completion: the release of an asserted claim, or else the assertion, never both, the
strings in turn (DESIGN CHOICE, notes/assumptions/71.md and 65.md). -/
def thermalWork (w : Work) : Work :=
  forEach (indices 4)
    (fun n v => if (v.targets.get (stringTarget n)).thermal then releaseThermal n v else testThermal n v) w

/-! ## Low-voltage disconnect (R124, R125) -/

/-- R125: the code of a stage. -/
def LvdStage.code : LvdStage → Nat
  | .normal => 0 | .neldShed => 1 | .battOff => 2

/-- R124: the stage asserts an LVD claim on target `t`. -/
def LvdStage.claims (g : LvdStage) (t : Fin 5) : Bool :=
  match g with
  | .normal => false
  | .neldShed => t == tNeld
  | .battOff => true

/-- R124: the LVD claim of target `t` is formed from the stage; the target is decided when it changed. -/
def formLvdClaim (t : Fin 5) (w : Work) : Work :=
  let c := w.lvd.claims t
  if (w.targets.get t).lvd == c then w else claim t (fun r => { r with lvd := c }) w

/-- R124, R125: the stage changes: the LVD_STAGE entry, the two points, and the targets T1 to T5 (the order is DESIGN CHOICE,
notes/assumptions/64.md). -/
def toStage (g : LvdStage) (w : Work) : Work :=
  let bus := detailOf (w.reads cBusV)
  { w with lvd := g }
  |> writeLog .lvdStage g.code .part (some bus)
  |> raise .lvdMoved
  |> handCondition pNeldOpen (g != .normal) bus
  |> handCondition pLvdOpen (g == .battOff) bus
  |> forEach (indices 5) formLvdClaim

/-- R124: the NELD_OPEN watch came to read TRUE. -/
def neldOpenRow (w : Work) : Work := if w.lvd == .normal then toStage .neldShed w else w

/-- R124: the LVD_OPEN watch came to read TRUE. -/
def lvdOpenRow (w : Work) : Work := if w.lvd == .battOff then w else toStage .battOff w

/-- R124: the reclose row, tested when LVD_RECLOSE comes to read TRUE and when a source becomes present. -/
def recloseRow (w : Work) : Work :=
  if w.lvd != .normal && w.watch wLvdReclose && w.sourcePresent then toStage .normal w else w

/-- R124: the stage's work at a scan completion, `before` being the records before it (DEDUCED, notes/assumptions/14.md). -/
def lvdWork (before : Measurement) (w : Work) : Work :=
  let rose := fun k => w.watch k && !(before.watches.get k).reading
  w |> onlyIf (rose wNeldOpen) neldOpenRow
    |> onlyIf (rose wLvdOpen) lvdOpenRow
    |> onlyIf (rose wLvdReclose) recloseRow

/-! ## Hand and host (R127, R128) -/

/-- R17, R127: the input HAND changed: the claims on all five targets, T1 to T5, and then the point's condition (the order is
DESIGN CHOICE, notes/assumptions/55.md). -/
def handMoved (w : Work) : Work :=
  let a := w.active iHand
  forEach (indices 5) (fun t => claim t fun r => { r with hand := a }) w
  |> handCondition pHand a 0

/-- R128: the HOST claim on target `t` becomes `c`, and the target is decided. RELEASE of an absent claim changes
nothing. -/
def hostClaim (t : Fin 5) (c : Option Drive) (w : Work) : Work :=
  if c == none && (w.targets.get t).host == none then w else claim t (fun r => { r with host := c }) w

/-- R128: at a HOLD entry every HOST claim is withdrawn and each target is decided afresh, T1 to T5 (the order is DESIGN CHOICE,
notes/assumptions/65.md). -/
def withdrawHost (w : Work) : Work := forEach (indices 5) (fun t => claim t fun r => { r with host := none }) w

/-! ## The feedback check (R129, R130) -/

/-- Sets the check of target `t`. -/
def setCheck (t : Fin 5) (c : Check) (timer : Option Timer) (w : Work) : Work :=
  { w with targets := w.targets.modify t fun r => { r with check := c, timer := timer } }

/-- R129: the auxiliary input of target `t` changed. -/
def auxMoved (t : Fin 5) (w : Work) : Work :=
  match (w.targets.get t).check with
  | .window => w
  | .agree => if w.agrees t then w else setCheck t .disagree w.feedbackTimer w
  | .disagree => if w.agrees t then setCheck t .agree none w else w
  | .faulted => if w.agrees t then setCheck t .agree none w else w

/-- R130: the fault marker of string `n` is set: it leaves service, its point is handed the condition, and then SERVICE says
OPEN (the order is DESIGN CHOICE, notes/assumptions/64.md). -/
def setMarker (n : Fin 4) (w : Work) : Work :=
  if (w.strings.get n).fault then w else
  { w with strings := w.strings.modify n fun r => { r with fault := true } }
  |> noteService w.toState
  |> handConditionFree (pStringFault n) true
  |> formService (stringTarget n)

/-- R130: a fault on target `t`. -/
def contactorFault (t : Fin 5) (w : Work) : Work :=
  w |> setCheck t .faulted none
    |> momentary pContactorFault .part (t.val + 1)
    |> fun v => if h : t.val < 4 then setMarker ⟨t.val, h⟩ v else v

/-- R129: the feedback timer of target `t` expires. -/
def feedbackExpiry (t : Fin 5) (w : Work) : Work :=
  match (w.targets.get t).check with
  | .window => if w.agrees t then setCheck t .agree none w else contactorFault t w
  | .disagree => contactorFault t w
  | .agree => w
  | .faulted => w

/-- R131: the fault marker of string `n` is cleared by CLEAR, with its condition; SERVICE is formed afresh. The entry the
point writes is CLEAR's (DEDUCED, notes/assumptions/31.md). -/
def clearMarker (n : Fin 4) (w : Work) : Work :=
  { w with
    strings := w.strings.modify n fun r => { r with fault := false }
    points := w.points.modify (pStringFault n) fun p => { p with raw := false } }
  |> formService (stringTarget n)

/-! ## After a restart (R132) -/

/-- R132: a target before the arbiter's first decision: standing closed, in WINDOW. -/
def restartTarget (s : State) (t : Fin 5) : Target :=
  ⟨false, false, false, none, s.serviceSays t, .closed, .service, .window, s.feedbackTimer⟩

/-- R132: the arbiter after a restart, from the strings and the settings as they stand; HAND from the input as sampled,
after the SERVICE decisions. A stage that ends by the restart writes no LVD_STAGE entry (DESIGN CHOICE,
notes/assumptions/61.md). -/
def restartArbiter (w : Work) : Work :=
  { w with targets := Table.ofFn (restartTarget w.toState), lvd := .normal }
  |> forEach (indices 5) decideTarget
  |> fun v => if v.active iHand then handMoved v else v

end Sys2Proof.Machine
end

