-- ==== Sys2Proof/Machine/Regime.lean ====
section
/-! DEFINITION. The charge regime (04_charge_regime.md): the regime record, its transitions, the compensated setpoint, the
thermal float guard and the EQUALIZE operation. -/

namespace Sys2Proof.Machine

/-- R57: the code of a regime. -/
def Regime.code : Regime → Nat
  | .noSource => 0 | .bulk => 1 | .absorb => 2 | .float => 3 | .equalize => 4 | .test => 5

/-- R50: the id of the base voltage of a regime; in TEST the setpoint field is formed on float_v (R59). -/
def Regime.baseId : Regime → Nat
  | .bulk => 0x0201
  | .absorb => 0x0201
  | .equalize => 0x0202
  | _ => 0x0200

/-- R59: the compensation, in cV. -/
def compensation (kTc : Nat) (tComp : Int) : Int := roundHalfAway ((kTc : Int) * (tComp - 250)) 1000

/-- R59, R61: the setpoint formed from the regime, the guard and T_comp. -/
def formedSetpoint (st : Settings) (r : RegimeRec) : Int :=
  let base : Nat := getSetting st (if r.guard then 0x0200 else r.regime.baseId)
  clampInt (getSetting st 0x0205) (getSetting st 0x0206) ((base : Int) - compensation (getSetting st 0x0204) r.tComp)

/-- R59: re-forms the setpoint. -/
def formSetpoint (w : Work) : Work :=
  { w with charge := { w.charge with setpoint := formedSetpoint w.settings w.charge } }

/-- R57: a change of regime, with its REGIME entry; the setpoint is re-formed at once. bulk_held is NONE at every entry
(R54) and the absorb timer runs only in ABSORB (R55). -/
def changeRegime (new : Regime) (detail : Int) (w : Work) : Work :=
  let absorb := if new == .absorb then some (w.timerS (w.setting 0x0207 * 3600)) else none
  { w with charge := { w.charge with regime := new, entered := w.siteSeconds, bulkHeld := none, absorb := absorb } }
  |> writeLog .regime new.code .part (some detail)
  |> formSetpoint

/-! ## The EQUALIZE operation -/

/-- R65, R66: a running equalize ends in slot CHARGE; its timer stops. eq_elapsed becomes 0 on COMPLETED and eq_holdoff
86 400 otherwise (R64). -/
def endEqualize (t : Termination) (c : Cause) (minutes : Nat) (w : Work) : Work :=
  let charge := w.charge
  let charge := { charge with eqTimer := none, eqMinutes := 0, eqSeconds := 0 }
  let charge := if t == .completed then { charge with eqElapsed := 0 }
    else { charge with eqHoldoff := Config.eqHoldoffS }
  { w with charge := charge } |> finishOp sCharge t c (.equalize minutes)

/-- R66: a running equalize is aborted: the regime becomes FLOAT while a source is present and NO_SOURCE otherwise. Its
REGIME entry is written before its OP_END entry (DESIGN CHOICE, notes/assumptions/45.md). -/
def abortEqualize (c : Cause) (w : Work) : Work :=
  (if w.sourcePresent then changeRegime .float 9 w else changeRegime .noSource 1 w)
  |> endEqualize .aborted c w.charge.eqMinutes

/-- R65: END ends a running equalize STOPPED, its REGIME entry written before its OP_END entry (DESIGN CHOICE,
notes/assumptions/45.md). -/
def stopEqualize (w : Work) : Work :=
  changeRegime .float 9 w |> endEqualize .stopped .none w.charge.eqMinutes

/-- R65: the equalize timer expires: COMPLETED, with hours × 60 as its result, the REGIME entry before the OP_END entry
(DESIGN CHOICE, notes/assumptions/45.md). -/
def completeEqualize (w : Work) : Work :=
  let hours := match w.slots.get sCharge with | some r => r.args.headD 0 | none => 0
  changeRegime .float 9 w |> endEqualize .completed .none (hours * 60)

/-- R63: the begin conditions of an equalize: the detail of the first that fails. -/
def State.equalizeBar (s : State) : Option Nat :=
  if s.mains.source != .grid then some 1
  else if !(s.serviceSet.all fun n =>
      match s.reads (cStrT n) with | some t => decide (t < s.setting 0x020B) | none => false) then some 2
  else if s.charge.guard then some 3
  else none

/-- R63, R64: an equalize begins. -/
def beginEqualize (origin : Origin) (hours : Nat) (w : Work) : Work :=
  w |> beginOp sCharge .equalize origin none [hours]
    |> changeRegime .equalize 8
    |> fun v => { v with charge :=
         { v.charge with eqTimer := some (v.timerS (hours * 3600)), eqMinutes := 0, eqSeconds := 0 } }

/-- R64: the scheduler's chance: an equalize that is due and allowed is begun. -/
def scheduledEqualize (w : Work) : Work :=
  if w.setting 0x020A ≠ 0 ∧ w.setting 0x020A * 86400 ≤ w.charge.eqElapsed ∧ w.charge.eqHoldoff = 0 ∧
      w.mode.mode = .attended ∧ w.occupied sCharge = false ∧ w.occupied sTest = false ∧ w.equalizeBar = none
  then beginEqualize .schedule (w.setting 0x0209) w
  else w

/-! ## Presence and markers -/

/-- R52: NO_SOURCE with a source present becomes BULK if some in-service string lacks its marker, FLOAT otherwise. -/
def leaveNoSource (w : Work) : Work := changeRegime (if w.anyNotFull then .bulk else .float) 2 w

/-- R52: a presence change. -/
def regimePresence (w : Work) : Work :=
  if w.sourcePresent then
    (if w.charge.regime == .noSource then leaveNoSource w else w)
  else
    match w.charge.regime with
    | .bulk => changeRegime .noSource 1 w
    | .absorb => changeRegime .noSource 1 w
    | .float => changeRegime .noSource 1 w
    | .equalize => abortEqualize .sourceChanged w
    | .noSource => w
    | .test => w

/-- R66: the source change that makes the source other than GRID aborts a running equalize. -/
def equalizeSource (w : Work) : Work :=
  if w.charge.regime == .equalize && w.mains.source != .grid then abortEqualize .sourceChanged w else w

/-- R53: FLOAT becomes BULK at the clearing of an in-service string's marker. -/
def regimeMarkerCleared (w : Work) : Work := if w.charge.regime == .float then changeRegime .bulk 3 w else w

/-! ## The work of a scan (R51) -/

/-- The greatest of some figures, `none` of none. -/
def greatestInt : List Int → Option Int
  | [] => none
  | a :: rest => some (rest.foldl max a)

/-- R58: T_comp and its source. -/
def State.chooseTComp (s : State) : Int × CompSource :=
  match greatestInt (s.serviceSet.filterMap fun n => s.reads (cStrT n)) with
  | some t => (t, .string)
  | none =>
    match s.reads cAmbT with
    | some t => (t, .ambient)
    | none => if s.watch wAmbHot then (450, .defaultHot) else (250, .default)

/-- R58: the detail of TEMP_COMP_LOST: the new source, 0 for STRING. -/
def CompSource.code : CompSource → Int
  | .string => 0 | .ambient => 1 | .defaultHot => 2 | .default => 3

/-- R58: forms T_comp and the TEMP_COMP_LOST condition. -/
def formTComp (w : Work) : Work :=
  let t := w.chooseTComp
  { w with charge := { w.charge with tComp := t.1, compSource := t.2 } }
  |> handCondition pTempCompLost (t.2 != .string) t.2.code

/-- R61: forms the guard; a change writes a REGIME entry and re-forms the setpoint. -/
def formGuard (w : Work) : Work :=
  let g := decide ((w.setting 0x0208 : Int) ≤ w.charge.tComp)
  if g == w.charge.guard then w else
  { w with charge := { w.charge with guard := g } }
  |> writeLog .regime w.charge.regime.code .part (some (if g then 12 else 13))
  |> formSetpoint

/-- R64: the two counters of the scheduled equalize. -/
def equalizeCounters (w : Work) : Work :=
  { w with charge := { w.charge with
      eqElapsed := min Config.elapsedTop (w.charge.eqElapsed + 1)
      eqHoldoff := w.charge.eqHoldoff - 1 } }

/-- R66: a running equalize is aborted THERMAL by a hot in-service string or by the guard. -/
def equalizeThermal (w : Work) : Work :=
  if w.charge.regime == .equalize &&
      (w.charge.guard || w.serviceSet.any fun n =>
        match w.reads (cStrT n) with | some t => decide ((w.setting 0x020B : Int) ≤ t) | none => false)
  then abortEqualize .thermal w else w

/-- R54: bulk_held at a scan with BUS_V usable at `v`, against the setpoint held before the scan. -/
def bulkStep (held : Int) (v : Int) (w : Work) : Work :=
  if held - 10 ≤ v then
    match w.charge.bulkHeld with
    | none => { w with charge := { w.charge with bulkHeld := some 0 } }
    | some k =>
      if k < 59 then { w with charge := { w.charge with bulkHeld := some (k + 1) } } else changeRegime .absorb 4 w
  else { w with charge := { w.charge with bulkHeld := none } }

/-- R52 to R55: the transitions of a scan completion, at most one of them (DESIGN CHOICE, notes/assumptions/57.md). `held` is the
setpoint before the scan completion. -/
def regimeTransitions (held : Int) (w : Work) : Work :=
  match w.charge.regime with
  | .noSource => if w.sourcePresent then leaveNoSource w else w
  | .bulk =>
    if w.serviceSet.isEmpty then changeRegime .float 7 w
    else match w.reads cBusV with | some v => bulkStep held v w | none => w
  | .absorb =>
    if w.serviceSet.isEmpty then changeRegime .float 7 w
    else if w.allFull then changeRegime .float 5 w
    else w
  | .float => w
  | .equalize => w
  | .test => w

/-- R51: the regime's work at a scan completion; `held` is the setpoint as it stood before the scan completion (R54). -/
def regimeWork (held : Int) (w : Work) : Work :=
  w |> equalizeCounters |> formTComp |> formGuard |> equalizeThermal |> regimeTransitions held |> formSetpoint

/-! ## The absorb timer (R55) -/

/-- R55: the lowest in-service string that lacks its marker, counted from 1; 0 if there is none. -/
def State.lowestNotFull (s : State) : Nat :=
  match s.serviceSet.find? fun n => !(s.strings.get n).full with | some n => n.val + 1 | none => 0

/-- R55: the absorb timer expires: FLOAT, and then ABSORB_TIMEOUT (the order is DESIGN CHOICE, notes/assumptions/64.md). -/
def absorbExpiry (w : Work) : Work :=
  changeRegime .float 6 w |> momentary pAbsorbTimeout .part w.lowestNotFull

/-- R55: a write of absorb_max moves a running timer's expiry; a moment already passed is an expiry at the write. -/
def absorbMaxWritten (w : Work) : Work :=
  match w.charge.absorb with
  | none => w
  | some t =>
    let due := t.start + w.setting 0x0207 * 3600000
    if due ≤ w.ms then absorbExpiry w else { w with charge := { w.charge with absorb := some ⟨t.start, due⟩ } }

/-! ## TEST (R56) and restarts (R67) -/

/-- R56: the discharge test makes the regime TEST. -/
def regimeToTest (w : Work) : Work := changeRegime .test 10 w

/-- R56: the test releases the regime: BULK, or NO_SOURCE at once when no source is present. -/
def releaseRegime (w : Work) : Work :=
  let w := changeRegime .bulk 11 w
  if w.sourcePresent then w else changeRegime .noSource 1 w

/-- R67: the regime after a restart; the two counters are those given. -/
def restartRegime (st : Settings) (eqElapsed eqHoldoff : Nat) : RegimeRec :=
  let r : RegimeRec :=
    ⟨.noSource, 0, none, none, 250, .default, false, 0, eqElapsed, eqHoldoff, none, 0, 0, false⟩
  { r with setpoint := formedSetpoint st r }

end Sys2Proof.Machine
end

