-- ==== Sys2Proof/Machine/Shelf.lean ====
section
/-! DEFINITION. The rectifier shelf (05_rectifier_shelf.md): the module table, the required count, the total current
limit and its ramps, the command set and rotation. -/

namespace Sys2Proof.Machine

/-! ## Module states (R71 to R74) -/

/-- R71: the code of a module state. -/
def ModuleState.code : ModuleState → Nat
  | .notFitted => 0 | .found => 1 | .unpolled => 2 | .standby => 3 | .starting => 4 | .online => 5 | .fault => 6
  | .lost => 7

/-- Changes the record of position `p`. -/
def changeModule (p : Fin 12) (f : Module → Module) (w : Work) : Work :=
  { w with shelf := { w.shelf with modules := w.shelf.modules.modify p f } }

/-- R74: some enrolled module is in the state given. -/
def State.someModule (s : State) (st : ModuleState) : Bool :=
  (indices 12).any fun p => s.moduleEnrolled p && s.moduleState p == st

/-- R74: RECT_FAIL and RECT_COMMS, formed at a change of state at position `p`. -/
def formRectPoints (p : Fin 12) (w : Work) : Work :=
  w |> handCondition pRectFail (w.someModule .fault) (p.val + 1)
    |> fun v => handCondition pRectComms (v.someModule .lost) (p.val + 1) v

/-- R71, R73, R74: position `p` enters a state: the start timer runs in STARTING only, the fault code stands in FAULT
only, and good_count is 0. A MODULE_STATE entry is written and the two conditions are formed (their order is DESIGN CHOICE,
notes/assumptions/64.md). -/
def enterModule (p : Fin 12) (st : ModuleState) (code : Nat) (origin : Origin) (w : Work) : Work :=
  changeModule p (fun m => { m with
      state := st
      fault := if st == .fault then code else 0
      good := 0
      startTimer := if st == .starting then some (w.timerS Config.moduleStartS) else none }) w
  |> writeLog .moduleState (p.val + 1) origin (some st.code)
  |> formRectPoints p

/-- R74: a STANDBY module is commanded on. -/
def startModule (p : Fin 12) (w : Work) : Work := enterModule p .starting 0 .part w

/-- R74: an ONLINE module is commanded off. -/
def shedModule (p : Fin 12) (w : Work) : Work := enterModule p .standby 0 .part w

/-- R80: the STANDBY module with the fewest run_minutes is commanded on. -/
def startLeastWorn (w : Work) : Work := match w.leastWornStandby with | some p => startModule p w | none => w

/-! ## Rotation (R86 to R88) -/

/-- R88: the result of a rotation in flight, with the run minutes at the begin. -/
def Rotation.result (r : Rotation) (outcome : Option RotateOutcome) : OpResult :=
  .rotate outcome (some r.outgoing) r.tried (some (r.minutes.get r.outgoing)) (some (r.minutes.get r.incoming))

/-- R87, R88: the rotation in flight ends. -/
def endRotation (t : Termination) (c : Cause) (outcome : Option RotateOutcome) (w : Work) : Work :=
  match w.shelf.rotation with
  | none => w
  | some r =>
    { w with shelf := { w.shelf with rotation := none } }
    |> finishOp sShelf t c (r.result outcome)

/-- R86: the threshold test of an incoming module against an outgoing one. -/
def State.worthRotating (s : State) (incoming outgoing : Fin 12) : Bool :=
  decide (s.runMinutes incoming + s.setting 0x0308 * 60 < s.runMinutes outgoing)

/-- R86: a ROTATE begins. -/
def beginRotation (origin : Origin) (w : Work) : Work :=
  let w : Work := { w with shelf := { w.shelf with rotMinutes := 0 } }
  let w := beginOp sShelf .rotate origin none [] w
  match w.mostWornOnline, w.leastWornStandby with
  | some o, some i =>
    if w.worthRotating i o then
      { w with shelf := { w.shelf with rotation := some ⟨o, i, [i], Table.ofFn w.runMinutes⟩ } }
      |> startModule i
    else finishOp sShelf .completed .none (.rotate (some .noChange) none [] none none) w
  | _, _ => finishOp sShelf .completed .none (.rotate (some .noChange) none [] none none) w

/-- R86: the scheduler's chance to begin a rotation. -/
def scheduledRotation (w : Work) : Work :=
  if w.setting 0x0307 ≠ 0 ∧ w.setting 0x0307 * 60 ≤ w.shelf.rotMinutes ∧ w.occupied sShelf = false
  then beginRotation .schedule w else w

/-- R87: the incoming module became ONLINE: the switch, or absorption. -/
def rotationSwitch (r : Rotation) (w : Work) : Work :=
  if w.shelf.nReq + 1 ≤ w.energizedCount then
    w |> shedModule r.outgoing |> endRotation .completed .none (some .changed)
  else endRotation .completed .none (some .absorbed) w

/-- R88: the incoming module failed: one further candidate, or the end. -/
def rotationRetry (r : Rotation) (w : Work) : Work :=
  match w.leastWornStandby with
  | some i =>
    if r.tried.length < 2 ∧ w.worthRotating i r.outgoing = true then
      { w with shelf := { w.shelf with rotation := some { r with incoming := i, tried := r.tried ++ [i] } } }
      |> startModule i
    else endRotation .aborted .fault none w
  | none => endRotation .aborted .fault none w

/-- R80, R87, R88: what follows when the module at `p` left the energized set by FAULT or LOST. -/
def replaceModule (p : Fin 12) (w : Work) : Work :=
  match w.shelf.rotation with
  | none => startLeastWorn w
  | some r =>
    if p == r.incoming then rotationRetry r w
    else if p == r.outgoing then endRotation .completed .none (some .superseded) w
    else startLeastWorn w

/-- R73, R74: position `p` enters FAULT with a code, or LOST. -/
def failModule (p : Fin 12) (st : ModuleState) (code : Nat) (w : Work) : Work :=
  let was := (w.moduleState p).energized
  w |> enterModule p st code .part |> onlyIf was (replaceModule p)

/-- R73: position `p` becomes ONLINE. -/
def moduleOnline (p : Fin 12) (w : Work) : Work :=
  let w := enterModule p .online 0 .part w
  match w.shelf.rotation with
  | some r => if p == r.incoming then rotationSwitch r w else w
  | none => w

/-- R73, R74: position `p` becomes STANDBY by its replies. -/
def moduleStandby (p : Fin 12) (w : Work) : Work := enterModule p .standby 0 .part w

/-! ## Replies and misses (R72, R73) -/

/-- R69, R85: the command that the plan of the cycle in flight sends, with the setpoint as it stands. -/
def State.sentCommand (s : State) (p : Fin 12) : Option PollCommand :=
  match s.shelf.plan.get p with
  | .silent => none
  | .query => some .query
  | .off => some (.off s.sentSetpoint)
  | .owedOff => some (.off s.sentSetpoint)
  | .on limit => some (.on s.sentSetpoint limit)

/-- R71, R77: the poll of position `p` has been sent (DEDUCED, notes/assumptions/23.md). -/
def noteSent (p : Fin 12) (c : PollCommand) (w : Work) : Work :=
  let owedOff := w.shelf.plan.get p == .owedOff
  changeModule p (fun m => { m with lastCommand := some c, owed := m.owed && !owedOff }) w

/-- R73: an enrolled position's reply. -/
def enrolledReply (p : Fin 12) (a : ModuleAnswer) (w : Work) : Work :=
  match w.moduleState p, a.out with
  | .unpolled, .on => moduleOnline p w
  | .unpolled, .off => moduleStandby p w
  | .unpolled, .fault => failModule p .fault a.code w
  | .standby, .fault => failModule p .fault a.code w
  | .standby, _ => w
  | .starting, .on => moduleOnline p w
  | .starting, .off => w
  | .starting, .fault => failModule p .fault a.code w
  | .online, .on => w
  | .online, .off => failModule p .fault 254 w
  | .online, .fault => failModule p .fault a.code w
  | .fault, .fault => changeModule p (fun m => { m with good := 0 }) w
  | .fault, _ =>
    let w := changeModule p (fun m => { m with good := m.good + 1 }) w
    if 3 ≤ (w.shelf.modules.get p).good then moduleStandby p w else w
  | .lost, .fault => failModule p .fault a.code w
  | .lost, _ => moduleStandby p w
  | .notFitted, _ => w
  | .found, _ => w

/-- R72: an unenrolled position's reply. -/
def unenrolledReply (p : Fin 12) (w : Work) : Work :=
  match w.moduleState p with
  | .notFitted => enterModule p .found 0 .part w
  | _ => w

/-- R69, R72, R73: a good reply from position `p`. A position that was not polled gives none (DESIGN CHOICE, notes/assumptions/24.md). -/
def takeReply (p : Fin 12) (a : ModuleAnswer) (w : Work) : Work :=
  match w.sentCommand p with
  | none => w
  | some c =>
    let w := noteSent p c w
    let w := changeModule p (fun m => { m with lastReply := some ⟨a, w.siteSeconds⟩, miss := 0 }) w
    if w.moduleEnrolled p then enrolledReply p a w else unenrolledReply p w

/-- R73: "count" with LOST at 3 misses. -/
def countMiss (p : Fin 12) (w : Work) : Work :=
  if 3 ≤ (w.shelf.modules.get p).miss then failModule p .lost 0 w else w

/-- R72, R73: a miss at a polled position. -/
def takeMiss (p : Fin 12) (w : Work) : Work :=
  match w.sentCommand p with
  | none => w
  | some c =>
    let w := noteSent p c w
    let w := onlyIf (w.moduleState p != .notFitted) (changeModule p fun m => { m with miss := min 255 (m.miss + 1) }) w
    match w.moduleState p with
    | .notFitted => w
    | .found => if 3 ≤ (w.shelf.modules.get p).miss then enterModule p .notFitted 0 .part w else w
    | .unpolled => countMiss p w
    | .standby => countMiss p w
    | .starting => countMiss p w
    | .online => countMiss p w
    | .fault => countMiss p (changeModule p (fun m => { m with good := 0 }) w)
    | .lost => w

/-- R74: the start timer of position `p` expires. -/
def startExpiry (p : Fin 12) (w : Work) : Work :=
  if w.moduleState p == .starting then failModule p .fault 255 w else w

/-! ## Ramps (R83, R84) -/

/-- R83, R84: a ramp starts, replacing any in flight. A duration of 0 takes step 16 at once. -/
def startRamp (kind : RampKind) (l0 l1 : Nat) (duration : Nat) (w : Work) : Work :=
  let interval := duration * 1000 / 16
  let ramp : Ramp :=
    if interval = 0 then ⟨kind, l0, l1, 16, 0, none⟩ else ⟨kind, l0, l1, 0, interval, some (w.timerMs interval)⟩
  { w with shelf := { w.shelf with ramp := ramp } }

/-- R83: a feed is made: WALKIN from 0 to the target as formed at this moment. -/
def startWalkin (w : Work) : Work := startRamp .walkin 0 (w.formedTarget w.shelf.iDemand) (w.setting 0x0305) w

/-- R83: the generator controller asks for the unload ramp, with its unload_s. -/
def startUnload (w : Work) : Work := startRamp .unload w.shelf.lTot 0 (w.setting 0x0405) w

/-- R83: a feed is broken: ZERO, and a ramp in flight is void. -/
def zeroRamp (w : Work) : Work :=
  { w with shelf := { w.shelf with ramp := { w.shelf.ramp with kind := .zero, timer := none } } }

/-- R84: the step timer expires, and the next step is taken. -/
def rampStepTaken (due : Nat) (w : Work) : Work :=
  let r := w.shelf.ramp
  let step := min 16 (r.step + 1)
  let timer := if step = 16 then none else some (Timer.mk due (due + r.interval))
  { w with shelf := { w.shelf with ramp := { r with step := step, timer := timer } } }

/-! ## A poll cycle completion (R68) -/

/-- R81: the figures of the working settings take effect. -/
def takeFigures (w : Work) : Work := { w with shelf := { w.shelf with inForce := w.shelfFigures } }

/-- R79: the demand. -/
def State.demand (s : State) : Nat :=
  match s.reads cLoadI with
  | some l => l.toNat + s.allowance
  | none => s.energizedCount * s.shelf.inForce.rating

/-- R79: N_req unclamped. -/
def State.required (s : State) (demand : Nat) : Nat :=
  ceilDiv (demand * 100) (s.shelf.inForce.rating * s.shelf.inForce.loading) + s.shelf.inForce.redundancy

/-- R79: N_req from N_req unclamped. -/
def State.clampRequired (s : State) (n : Nat) : Nat := min s.healthyCount (max n s.shelf.inForce.minOnline)

/-- R68 step 1 (R79): the demand, the required count and REDUNDANCY_LOST. -/
def formRequired (w : Work) : Work :=
  let d := w.demand
  let n := w.required d
  { w with shelf := { w.shelf with iDemand := d, nReqUnclamped := n, nReq := w.clampRequired n } }
  |> handCondition pRedundancyLost (decide (w.healthyCount < n)) n

/-- R68 step 2 (R87): absorption of a rotation in flight. -/
def checkAbsorption (w : Work) : Work :=
  if w.energizedCount < w.shelf.nReq + 1 then endRotation .completed .none (some .absorbed) w else w

/-- R80: the shed decision while the energized count is above N_req. A shed due while no module is ONLINE is not made, and the
timer runs on (DESIGN CHOICE, notes/assumptions/68.md). -/
def shedDecision (w : Work) : Work :=
  match w.shelf.shedTimer with
  | none => { w with shelf := { w.shelf with shedTimer := some w.ms } }
  | some t =>
    if t + w.setting 0x0304 * 1000 ≤ w.ms ∧ w.shelf.rotation = none then
      match w.mostWornOnline with
      | some p => shedModule p { w with shelf := { w.shelf with shedTimer := some w.ms } }
      | none => w
    else w

/-- R68 step 3 (R80): the start and shed decisions. -/
def startAndShed (w : Work) : Work :=
  if w.shelf.nReq < w.energizedCount then shedDecision w
  else
    let w : Work := { w with shelf := { w.shelf with shedTimer := none } }
    if w.energizedCount < w.shelf.nReq then startLeastWorn w else w

/-- R82: L_tot from the ramp and the target. -/
def totalLimit (r : Ramp) (target : Nat) : Nat :=
  match r.kind with
  | .none => target
  | .walkin => min r.value.toNat target
  | .unload => min r.value.toNat target
  | .zero => 0

/-- R84: the ramp at a completion at which step 16 has been taken ends, and the generator controller is told. -/
def endRamp (w : Work) : Work :=
  let r := w.shelf.ramp
  if r.step < 16 then w else
  match r.kind with
  | .walkin => { w with shelf := { w.shelf with ramp := { r with kind := .none, timer := none } } } |> raise .walkinEnded
  | .unload => { w with shelf := { w.shelf with ramp := { r with kind := .zero, timer := none } } } |> raise .unloadEnded
  | .none => w
  | .zero => w

/-- R68 step 4 (R82, R84): the target and L_tot, and the end of a ramp. -/
def formTotal (w : Work) : Work :=
  let t := w.formedTarget w.shelf.iDemand
  { w with shelf := { w.shelf with target := t, lTot := totalLimit w.shelf.ramp t } } |> endRamp

/-- R85: the share of the `k`-th of `n` energized modules, counted from 0. -/
def share (total n k : Nat) : Nat := total / n + (if k < total % n then 1 else 0)

/-- The place of `p` in a list of positions. -/
def placeIn (p : Fin 12) : List (Fin 12) → Nat
  | [] => 0
  | q :: rest => if p = q then 0 else placeIn p rest + 1

/-- R85: what the command set for the next cycle plans for position `p`; `discovery` says that it is a discovery
cycle. -/
def State.planFor (s : State) (discovery : Bool) (p : Fin 12) : PollPlan :=
  if s.moduleEnrolled p then
    match s.moduleState p with
    | .starting => .on (share s.shelf.lTot s.energizedCount (placeIn p s.energizedSet))
    | .online => .on (share s.shelf.lTot s.energizedCount (placeIn p s.energizedSet))
    | .standby => .off
    | .fault => .off
    | _ => .query
  else if (s.shelf.modules.get p).owed then .owedOff
  else if discovery then .query
  else .silent

/-- R77: an off command that the cycle just ended has sent is owed no longer. -/
def settleOwed (w : Work) : Work :=
  let plan := w.shelf.plan
  let modules := Table.ofFn fun p =>
    let m := w.shelf.modules.get p
    if plan.get p == .owedOff then { m with owed := false } else m
  { w with shelf := { w.shelf with modules := modules } }

/-- R68 step 5 (R85): the command set for the next cycle, the cycle after number `cycle`. -/
def formPlan (w : Work) : Work :=
  { w with shelf := { w.shelf with plan := Table.ofFn (w.planFor (decide ((w.shelf.cycle + 1) % 16 = 0))) } }

/-- R68: the shelf's work at a poll cycle completion, the `cycle`-th since the restart; written figures take effect first
(R81). -/
def pollCycleWork (w : Work) : Work :=
  let w : Work := { w with shelf := { w.shelf with cycle := w.shelf.cycle + 1 } }
  w |> reachMs (w.shelf.cycle * Config.pollCycleMs) |> settleOwed |> takeFigures |> formRequired |> checkAbsorption
    |> startAndShed |> formTotal |> formPlan

/-! ## The second tick (R75) -/

/-- R75: a count of minutes after one more minute, at second tick `tick`; its top is 4 294 967 295, and the manual does not
say what follows it (DESIGN CHOICE, notes/assumptions/43.md). -/
def minuteMore (tick which count : Nat) : Nat :=
  if count < 4294967295 then count + 1 else (Config.freeMinutes tick which).toNat

/-- R75: the run minutes of the module at position `p` at second tick `tick`. -/
def countModule (tick : Nat) (p : Fin 12) (m : Module) : Module :=
  if m.state != .online then m
  else if m.onlineSeconds + 1 < 60 then { m with onlineSeconds := m.onlineSeconds + 1 }
  else { m with onlineSeconds := 0, runMinutes := minuteMore tick p m.runMinutes }

/-- R75: the run minutes of every module, and rot_minutes at a minute of site time. -/
def shelfTick (w : Work) : Work :=
  let minute := decide (w.tickCount % 60 = 0) && w.someModule .online
  { w with shelf := { w.shelf with
      modules := Table.ofFn fun p => countModule w.tickCount p (w.shelf.modules.get p)
      rotMinutes := if minute then minuteMore w.tickCount 12 w.shelf.rotMinutes else w.shelf.rotMinutes } }

/-! ## Enrolment (R76, R77) -/

/-- R81: the enrolled mask with position `p` put in or taken out. -/
def maskWith (mask : Nat) (p : Fin 12) (on : Bool) : Nat :=
  if maskNames mask p.val == on then mask else if on then mask + 2 ^ p.val else mask - 2 ^ p.val

/-- R76, R77: the enrolled mask of the working settings changes at position `p`. -/
def setEnrolled (p : Fin 12) (on : Bool) (w : Work) : Work :=
  { w with settings := putSetting w.settings 0x0309 (maskWith (w.setting 0x0309) p on) }

/-- R76 step 6: position `p` is enrolled. -/
def enrolModule (p : Fin 12) (fresh : Bool) (w : Work) : Work :=
  let plan := if w.shelf.plan.get p == .owedOff then w.shelf.plan.set p .silent else w.shelf.plan
  setEnrolled p true { w with shelf := { w.shelf with plan := plan } }
  |> changeModule p (fun m => { m with
      miss := 0, owed := false
      runMinutes := if fresh then 0 else m.runMinutes
      onlineSeconds := if fresh then 0 else m.onlineSeconds })
  |> enterModule p .unpolled 0 .host

/-- R77 step 7: position `p` is retired. -/
def retireModule (p : Fin 12) (w : Work) : Work :=
  setEnrolled p false w
  |> changeModule p (fun m => { m with miss := 0, owed := true })
  |> enterModule p .notFitted 0 .host

/-! ## After a restart (R89) -/

/-- R89: a module record after a restart. -/
def restartModule (enrolled : Bool) (runMinutes : Nat) : Module :=
  ⟨if enrolled then .unpolled else .notFitted, 0, 0, 0, none, runMinutes, 0, none, none, false⟩

/-- R89: the shelf after a restart; the first cycle carries only queries. The settings are those of the working settings,
so their figures of R81 are in force. -/
def restartShelf (s : State) (runMinutes : Fin 12 → Nat) (rotMinutes : Nat) : Shelf :=
  ⟨Table.ofFn fun p => restartModule (s.moduleEnrolled p) (runMinutes p), 0, 0, 0, 0, 0, Ramp.start, none, rotMinutes, 0,
   Table.ofFn fun p => if s.moduleEnrolled p then .query else .silent, none, s.shelfFigures⟩

end Sys2Proof.Machine
end

