-- ==== Sys2Proof/Machine/Mains.lean ====
section
/-! DEFINITION. The source supervisor (R90 to R92): qualification of the grid, the changeover and the present source. -/

namespace Sys2Proof.Machine

/-! ## The present source (R92) -/

/-- R92: the code of a source. -/
def Source.code : Source → Nat
  | .none => 0 | .grid => 1 | .generator => 2

/-- R92: the code of a changeover state. -/
def Changeover.code : Changeover → Nat
  | .mainsFeed => 0 | .toGen => 1 | .genFeed => 2 | .toMains => 3

/-- R51: whether a source is present is formed. At a presence change, at the moment it comes, the regime acts (R52) and the
reclose row is tested (R124). -/
def formPresence (w : Work) : Work :=
  if w.sourcePresent == w.charge.present then w else
  { w with charge := { w.charge with present := w.sourcePresent } } |> regimePresence |> recloseRow

/-- R92: a source change, with its SOURCE entry: a running equalize is aborted by it (R66), and the generator controller
looks at it (R99). The order of the entries is DESIGN CHOICE, notes/assumptions/64.md. -/
def changeSource (src : Source) (w : Work) : Work :=
  { w with mains := { w.mains with source := src } }
  |> writeLog .source src.code .part (some w.mains.changeover.code)
  |> equalizeSource
  |> raise .engine

/-- R92: the present source is formed afresh, and presence with it (R51). -/
def formSource (w : Work) : Work :=
  (if w.formedSource == w.mains.source then w else changeSource w.formedSource w) |> formPresence

/-! ## The changeover (R91) -/

/-- R91: MAINS_BREAK is energized. -/
def Changeover.mainsBroken (c : Changeover) : Bool := c != .mainsFeed

/-- R91: GEN_MAKE is energized. -/
def Changeover.genMade (c : Changeover) : Bool := c == .genFeed

/-- R91: the gap timer runs. -/
def Changeover.inGap (c : Changeover) : Bool := c == .toGen || c == .toMains

/-- R83: what the shelf does at the relay changes from one changeover state to another. -/
def rampAtChangeover (old new : Changeover) (w : Work) : Work :=
  if old.mainsBroken != new.mainsBroken then (if new.mainsBroken then zeroRamp w else startWalkin w)
  else if old.genMade != new.genMade then (if new.genMade then startWalkin w else zeroRamp w)
  else w

/-- R91: the changeover enters a state: its relays, its gap timer, the source, and the shelf's ramp. -/
def enterChangeover (c : Changeover) (w : Work) : Work :=
  let timer := if c.inGap then some (w.timerMs Config.gapMs) else none
  { w with mains := { w.mains with changeover := c, gapTimer := timer } }
  |> setRelay rMainsBreak c.mainsBroken
  |> setRelay rGenMake c.genMade
  |> formSource
  |> rampAtChangeover w.mains.changeover c

/-- R91: the generator controller asks for a transfer. -/
def requestTransfer (w : Work) : Work :=
  match w.mains.changeover with
  | .mainsFeed => enterChangeover .toGen w
  | .toMains => enterChangeover .toGen w
  | .toGen => formSource w
  | .genFeed => formSource w

/-- R91, R100, R102: the generator controller leaves ONLOAD and asks for a return or an abandon. -/
def requestLeave (w : Work) : Work :=
  match w.mains.changeover with
  | .genFeed => enterChangeover .toMains w
  | .toGen => enterChangeover .mainsFeed w
  | .mainsFeed => formSource w
  | .toMains => formSource w

/-- R91: the gap timer expires. -/
def gapExpiry (w : Work) : Work :=
  match w.mains.changeover with
  | .toGen => enterChangeover .genFeed w
  | .toMains => enterChangeover .mainsFeed w
  | .mainsFeed => w
  | .genFeed => w

/-! ## Qualification (R90) -/

/-- R90: the grid's qualification from the watch readings, `before` being the records before the change: a change is a
grid state change. GRID_FAIL is handed its condition before the others act (DESIGN CHOICE, notes/assumptions/12.md). -/
def gridWork (before : Measurement) (w : Work) : Work :=
  let q := w.gridWatches
  if q == w.mains.qualified then w else
  let volts := w.watch wGridV != (before.watches.get wGridV).reading
  { w with mains := { w.mains with qualified := q } }
  |> raise .gridMoved
  |> handCondition pGridFail (!q) (if volts then 8 else 9)

end Sys2Proof.Machine
end

