-- ==== Sys2Proof/Machine/Generator.lean ====
section
/-! DEFINITION. The generator controller (R93 to R106). -/

namespace Sys2Proof.Machine

/-- R93: the code of a state or sub-phase. -/
def GenState.code : GenState → Nat
  | .off => 0 | .prestart => 1 | .crank => 2 | .rest => 3 | .warmup => 4 | .idling => 5 | .onloadWalkin => 6
  | .onloadRunning => 7 | .onloadUnloading => 8 | .cooldown => 9 | .rundown => 10 | .lockout => 11

/-- R101, R105: a stop code. -/
def StopCode.code : StopCode → Nat
  | .condition => 1 | .duration => 2 | .gridReturn => 3 | .maxRun => 4 | .allowance => 5 | .endByHost => 6
  | .startFail => 7 | .warmupFail => 8 | .faultInput => 9 | .runningLost => 10 | .stopFail => 11 | .restart => 12

/-- R93: FUEL_RUN is energized in a state. -/
def GenState.fuelOn : GenState → Bool
  | .off => false
  | .rundown => false
  | .lockout => false
  | _ => true

/-- R93: the detail of a GEN_STATE entry: the attempt on entry to CRANK, the code of the stop under way, or 0
(DEDUCED, notes/assumptions/17.md). -/
def State.genDetail (s : State) (st : GenState) : Nat :=
  if st == .crank then s.gen.attempt
  else match s.gen.stop with | some x => x.code.code | none => 0

/-- R93: the origin of a GEN_STATE entry: the run's on the entry to PRESTART, PART on the others. -/
def State.genOrigin (s : State) (st : GenState) : Origin :=
  match st, s.slots.get sGenerator with
  | .prestart, some r => r.origin
  | _, _ => .part

/-- R93: a change of sub-phase. -/
def enterSubPhase (st : GenState) (w : Work) : Work :=
  { w with gen := { w.gen with state := st } }
  |> writeLog .genState st.code .part (some (w.genDetail st))

/-- R93: a change of state with its state timer: the relays of the state, the GEN_STATE entry, the generator state
change, and the supervision of the state entered. The evaluation of the state change comes before that supervision (DESIGN
CHOICE, notes/assumptions/69.md). -/
def enterGen (st : GenState) (timer : Option Timer) (w : Work) : Work :=
  { w with gen := { w.gen with state := st, timer := timer, window := none, exercise := none } }
  |> setRelay rFuelRun st.fuelOn
  |> setRelay rCrank (st == .crank)
  |> writeLog .genState st.code (w.genOrigin st) (some (w.genDetail st))
  |> raise .genMoved
  |> raise .engine

/-- The record of slot GENERATOR is of kind RUN. -/
def State.genKind (s : State) (k : OpKind) : Bool :=
  match s.slots.get sGenerator with | some r => r.kind == k | none => false

/-- The argument of the run in slot GENERATOR, in minutes. -/
def State.genMinutes (s : State) : Nat :=
  match s.slots.get sGenerator with | some r => r.args.headD 0 | none => 0

/-- The reason of the run in slot GENERATOR. -/
def State.genReason (s : State) : Option Reason :=
  match s.slots.get sGenerator with | some r => r.reason | none => none

/-! ## The end of a run (R104, R105) -/

/-- R105: the result of a generator operation; a record that a warm restart has kept shows its kept figures (R106).
The estimate at DONE is that before the evaluation of the same change of state (DESIGN CHOICE, notes/assumptions/60.md). -/
def State.genResult (s : State) : OpResult :=
  let f : KeptFigures := s.gen.kept.getD ⟨s.gen.onload, s.gen.idling, s.gen.attempt⟩
  .generator (f.onload / 60) (f.idling / 60) f.attempt (s.gen.fuelStart - s.sched.estimate) s.genReason
    (match s.gen.stop with | some x => some x.code | none => none)

/-- R101, R100: a stop becomes the stop under way, and the slot STOPPING. -/
def setStop (code : StopCode) (t : Termination) (c : Cause) (w : Work) : Work :=
  { w with gen := { w.gen with stop := some ⟨code, t, c⟩ } } |> stopOp sGenerator t c

/-- R105: the generator operation becomes DONE; no stop is under way any more. -/
def finishRun (t : Termination) (c : Cause) (w : Work) : Work :=
  let w := finishOp sGenerator t c w.genResult w
  { w with gen := { w.gen with stop := none, kept := none } }

/-- R102, R105: the entry to OFF ends the run with the stop under way; GEN_STATE is written before OP_END (DESIGN CHOICE,
notes/assumptions/59.md). -/
def enterOff (w : Work) : Work :=
  let s : Stop := w.gen.stop.getD ⟨.condition, .completed, .none⟩
  w |> enterGen .off none |> finishRun s.termination s.cause

/-- R104: START is the only lockout cause. -/
def LockoutCauses.startOnly (c : LockoutCauses) : Bool := c.start && !c.run && !c.stop

/-- R104: the retry timer of a lockout entered at `entry`. -/
def State.retryTimer (s : State) (entry : Nat) : Option Timer :=
  if s.gen.causes.startOnly && decide (0 < s.setting 0x0409) then
    some ⟨entry, entry + s.setting 0x0409 * 3600000⟩
  else none

/-- R104: the entry to LOCKOUT, under the causes that stand; the slot becomes DONE, ABORTED with the cause given. -/
def enterLockout (c : Cause) (w : Work) : Work :=
  let w := enterGen .lockout none w
  { w with gen := { w.gen with lockoutAt := w.ms, retry := w.retryTimer w.ms } }
  |> finishRun .aborted c

/-- R96, R97: the last crank attempt or the last stall: LOCKOUT with cause START. The order of the entries is DESIGN CHOICE,
notes/assumptions/59.md. -/
def startFailure (w : Work) : Work :=
  let causes := { w.gen.causes with start := true }
  setStop .startFail .aborted .fault { w with gen := { w.gen with causes := causes } }
  |> enterLockout .fault
  |> momentary pGenFailStart .part w.gen.attempt
  |> raise .lockoutCheck

/-- R106: which failure points are not NORMAL. -/
def State.standingCauses (s : State) : LockoutCauses :=
  ⟨(s.points.get pGenFailStart).state != .normal, (s.points.get pGenFailRun).state != .normal,
   (s.points.get pGenFailStop).state != .normal⟩

/-- R104: no failure point holds the lockout. -/
def LockoutCauses.none (c : LockoutCauses) : Bool := !c.start && !c.run && !c.stop

/-- R102, R106: a rundown ends, running being not detected. The rundown made at a warm restart ends in LOCKOUT when a
failure point is not NORMAL; its retry timer runs from the restart. -/
def rundownEnd (w : Work) : Work :=
  match w.gen.target with
  | .lockout => enterLockout .fault w |> raise .lockoutCheck
  | .off =>
    let restarted := match w.gen.stop with | some x => x.code == .restart | none => false
    if restarted && w.lastRestart == .warm && !w.standingCauses.none then
      let w := enterLockout .restart { w with gen := { w.gen with causes := w.standingCauses } }
      { w with gen := { w.gen with lockoutAt := 0, retry := w.retryTimer 0 } } |> raise .lockoutCheck
    else enterOff w

/-- R102: RUNDOWN is entered; `engine` ends it at once when running is not detected. -/
def enterRundown (target : RundownTarget) (w : Work) : Work :=
  enterGen .rundown (some (w.timerS Config.rundownMaxS)) { w with gen := { w.gen with target := target } }

/-- R102: the rundown timer expires with running still detected. The order of the entries is DESIGN CHOICE,
notes/assumptions/59.md. -/
def rundownExpiry (w : Work) : Work :=
  if w.gen.state == .rundown then
    let causes := { w.gen.causes with stop := true }
    setStop .stopFail .aborted .fault { w with gen := { w.gen with causes := causes } }
    |> enterLockout .fault
    |> momentary pGenFailStop .part 11
    |> raise .lockoutCheck
  else w

/-! ## Failures (R97, R100) -/

/-- R97, R100: a failure of a running engine: the stop under way becomes it, RUNDOWN with target LOCKOUT and cause RUN,
and GEN_FAIL_RUN. In ONLOAD the feed is given back. The order of the entries is DESIGN CHOICE, notes/assumptions/59.md. -/
def engineFailure (code : StopCode) (w : Work) : Work :=
  let causes := { w.gen.causes with run := true }
  setStop code .aborted .fault { w with gen := { w.gen with causes := causes } }
  |> enterRundown .lockout
  |> onlyIf w.gen.state.onload requestLeave
  |> momentary pGenFailRun .part code.code

/-! ## Starting (R95 to R97) -/

/-- R97: WARMUP is entered; with warmup_s 0 the check window opens at the entry. -/
def enterWarmup (w : Work) : Work :=
  if w.setting 0x0404 = 0 then
    let w := enterGen .warmup none w
    { w with gen := { w.gen with window := some (w.timerS Config.checkWindowS) } }
  else enterGen .warmup (some (w.timerS (w.setting 0x0404))) w

/-- R96: CRANK is entered for attempt `n`. -/
def enterCrank (n : Nat) (w : Work) : Work :=
  enterGen .crank (some (w.timerS (w.setting 0x0401))) { w with gen := { w.gen with attempt := n } }

/-- R96: REST is entered. -/
def enterRest (w : Work) : Work := enterGen .rest (some (w.timerS (w.setting 0x0402))) w

/-- R95: the prestart is over. -/
def prestartEnd (w : Work) : Work := if w.running then enterWarmup w else enterCrank 1 w

/-- R95: the prestart timer expires. -/
def prestartExpiry (w : Work) : Work := if w.gen.state == .prestart then prestartEnd w else w

/-- R95: a start. -/
def startRun (kind : OpKind) (origin : Origin) (reason : Option Reason) (minutes : Nat) (w : Work) : Work :=
  let w := beginOp sGenerator kind origin reason [minutes] w
  let gen := w.gen
  let gen := { gen with attempt := 0, onload := 0, idling := 0, stop := none, fuelStart := w.sched.estimate, kept := none }
  { w with gen := gen }
  |> enterGen .prestart (if w.setting 0x0400 = 0 then none else some (w.timerS (w.setting 0x0400)))
  |> onlyIf (decide (w.setting 0x0400 = 0)) prestartEnd

/-- R96: the crank timer expires. -/
def crankExpiry (w : Work) : Work :=
  if w.gen.state == .crank then (if w.gen.attempt < w.setting 0x0403 then enterRest w else startFailure w) else w

/-- R96: the rest timer expires. -/
def restExpiry (w : Work) : Work := if w.gen.state == .rest then enterCrank (w.gen.attempt + 1) w else w

/-- R97: a stall counts as a failed attempt. -/
def stall (w : Work) : Work := if w.gen.attempt < w.setting 0x0403 then enterRest w else startFailure w

/-- R97: the warm-up timer expires: the check window opens. -/
def warmupExpiry (w : Work) : Work :=
  if w.gen.state == .warmup then
    { w with gen := { w.gen with timer := none, window := some (w.timerS Config.checkWindowS) } } |> raise .engine
  else w

/-- R97: the check window expires with a reading FALSE. -/
def windowExpiry (w : Work) : Work := if w.gen.state == .warmup then engineFailure .warmupFail w else w

/-- R97, R98: ONLOAD is entered with a transfer. -/
def enterOnload (w : Work) : Work := w |> enterGen .onloadWalkin none |> requestTransfer

/-- R99: an exercise is converted to a RUN. -/
def convertExercise (w : Work) : Work :=
  changeOp sGenerator (fun r => { r with kind := .run, reason := some .exerciseConverted }) w |> enterOnload

/-- R99: IDLING is entered, with its exercise timer. -/
def enterIdling (w : Work) : Work :=
  let w := enterGen .idling none w
  { w with gen := { w.gen with exercise := some (w.timerS (w.genMinutes * 60)) } }

/-- R97: the controller proceeds. -/
def proceed (w : Work) : Work :=
  if w.genKind .exercise then (if w.mains.source == .none then convertExercise w else enterIdling w)
  else enterOnload w

/-! ## Stopping (R101, R102) -/

/-- R101: the fuel is cut before any load: RUNDOWN while running is detected, OFF at once otherwise. -/
def cutFuel (w : Work) : Work := if w.running then enterRundown .off w else enterOff w

/-- R102: the cool-down is over. -/
def cooldownEnd (w : Work) : Work := enterRundown .off w

/-- R102: COOLDOWN is entered, from ONLOAD with the feed given back. With cooldown_s 0 it ends at the entry. -/
def enterCooldown (w : Work) : Work :=
  let zero := decide (w.setting 0x0406 = 0)
  enterGen .cooldown (if zero then none else some (w.timerS (w.setting 0x0406))) w
  |> onlyIf w.gen.state.onload requestLeave
  |> onlyIf zero cooldownEnd

/-- R102: the cool-down timer expires. -/
def cooldownExpiry (w : Work) : Work := if w.gen.state == .cooldown then cooldownEnd w else w

/-- R101: the course of a stop. -/
def stopCourse (w : Work) : Work :=
  match w.gen.state with
  | .prestart => cutFuel w
  | .crank => cutFuel w
  | .rest => cutFuel w
  | .warmup => cutFuel w
  | .idling => enterCooldown w
  | .onloadWalkin => if w.mains.changeover == .toGen then enterCooldown w else w |> enterSubPhase .onloadUnloading |> startUnload
  | .onloadRunning => w |> enterSubPhase .onloadUnloading |> startUnload
  | .onloadUnloading => w
  | .cooldown => w
  | .rundown => w
  | .off => w
  | .lockout => w

/-- R101: a stop reaches the controller. -/
def takeStop (code : StopCode) (t : Termination) (c : Cause) (w : Work) : Work :=
  if w.gen.state.inRun && w.gen.stop.isNone then w |> setStop code t c |> stopCourse else w

/-- R99: the exercise timer expires. -/
def exerciseExpiry (w : Work) : Work :=
  if w.gen.state == .idling then takeStop .duration .completed .none w else w

/-- R98: the shelf reports the end of the walk-in. -/
def walkinOver (w : Work) : Work := if w.gen.state == .onloadWalkin then enterSubPhase .onloadRunning w else w

/-- R102: the shelf reports the end of the unload. -/
def unloadOver (w : Work) : Work := if w.gen.state == .onloadUnloading then enterCooldown w else w

/-! ## Supervision (R93, R96, R97, R99, R100, R102) -/

/-- R96, R97, R99, R100, R102: what the state at hand supervises, acted on as it stands. Where several hold at one moment,
FAULT_INPUT is taken before RUNNING_LOST (R100), a stall before the step out of the warm-up (R97), and a failure before the
conversion of an exercise (R99, R100): DESIGN CHOICE, notes/assumptions/18.md. -/
def superviseEngine (w : Work) : Work :=
  match w.gen.state with
  | .crank => if w.running then enterWarmup w else w
  | .rest => if w.running then enterWarmup w else w
  | .warmup =>
    if !w.running then stall w
    else if w.gen.window.isSome && w.genWatches then proceed w
    else w
  | .idling =>
    if w.faultInput then engineFailure .faultInput w
    else if !w.running || !w.genWatches then engineFailure .runningLost w
    else if w.mains.source == .none then convertExercise w
    else w
  | .onloadWalkin =>
    if w.faultInput then engineFailure .faultInput w
    else if !w.running || !w.genWatches then engineFailure .runningLost w
    else w
  | .onloadRunning =>
    if w.faultInput then engineFailure .faultInput w
    else if !w.running || !w.genWatches then engineFailure .runningLost w
    else w
  | .onloadUnloading =>
    if w.faultInput then engineFailure .faultInput w
    else if !w.running || !w.genWatches then engineFailure .runningLost w
    else w
  | .cooldown =>
    if w.faultInput then engineFailure .faultInput w
    else if !w.running then enterRundown .off w
    else w
  | .rundown => if !w.running then rundownEnd w else w
  | .off => w
  | .prestart => w
  | .lockout => w

/-- R103: the grid return applies to the run at hand. -/
def State.gridReturnApplies (s : State) : Bool :=
  s.genKind .run &&
  (s.genReason != some .host || (decide (s.genMinutes ≠ 0) && decide (s.genMinutes * 60 ≤ s.gen.onload)))

/-- R103: the states of a grid return. -/
def GenState.returns : GenState → Bool
  | .prestart => true
  | .crank => true
  | .rest => true
  | .warmup => true
  | g => g.onload

/-- R103: the grid return, at a grid state change that makes the grid qualified. -/
def gridReturn (w : Work) : Work :=
  if w.mains.qualified && w.gen.state.returns && w.gridReturnApplies then
    takeStop .gridReturn .completed .sourceChanged w
  else w

/-- R98, R99: the counts of a second, and the maximum run, whose stop is taken before GEN_LONG_RUN is handed (DESIGN CHOICE,
notes/assumptions/59.md). -/
def engineTick (w : Work) : Work :=
  if w.gen.state.onload then
    let w : Work := { w with gen := { w.gen with onload := w.gen.onload + 1 } }
    if w.gen.state != .onloadUnloading && decide (w.setting 0x0408 * 60 ≤ w.gen.onload) then
      w |> takeStop .maxRun .completed .none |> momentary pGenLongRun .part (w.setting 0x0408)
    else w
  else if w.gen.state == .idling then { w with gen := { w.gen with idling := w.gen.idling + 1 } }
  else w

/-! ## Lockout (R104) -/

/-- R104: the exit from LOCKOUT, at the first moment at which the three failure points are NORMAL. -/
def checkLockout (w : Work) : Work :=
  if w.gen.state == .lockout && w.standingCauses.none then
    { w with gen := { w.gen with causes := ⟨false, false, false⟩, retry := none } } |> enterGen .off none
  else w

/-- R104: the retry timer expires. -/
def retryExpiry (w : Work) : Work :=
  let w : Work := { w with gen := { w.gen with retry := none } }
  if (w.points.get pGenFailRun).state == .normal && (w.points.get pGenFailStop).state == .normal then
    makeNormal pGenFailStart .auto w
  else w

/-- R104: a write of start_fail_retry_h. -/
def retryWritten (w : Work) : Work :=
  if w.gen.state != .lockout || !w.gen.causes.startOnly then w else
  match w.retryTimer w.gen.lockoutAt with
  | none => { w with gen := { w.gen with retry := none } }
  | some t => if t.due ≤ w.ms then retryExpiry w else { w with gen := { w.gen with retry := some t } }

/-! ## After a restart (R106) -/

/-- R106: the controller record at a restart of an engine that is not running; its rundown target is OFF (DESIGN CHOICE,
notes/assumptions/8.md). -/
def restartGenerator : Generator := Generator.start

/-- R106: the restart's rundown: its stop is RESTART, its timer runs from the restart. No GEN_STATE entry is written (DESIGN
CHOICE, notes/assumptions/61.md). -/
def restartRundown (s : State) (fuelStart : Nat) (kept : Option KeptFigures) : Generator :=
  { Generator.start with
    state := .rundown
    timer := some (s.timerS Config.rundownMaxS)
    stop := some ⟨.restart, .aborted, .restart⟩
    fuelStart := fuelStart
    kept := kept }

end Sys2Proof.Machine
end

