-- ==== Sys2Proof/Machine/TestOp.lean ====
section
/-! DEFINITION. The discharge test (R139 to R144). Its arguments stand in the TEST slot's record: max_minutes, depth_pct
and end_v, as taken. -/

namespace Sys2Proof.Machine

/-- Argument `i` of the record in slot TEST. -/
def State.testArg (s : State) (i : Nat) : Nat :=
  match s.slots.get sTest with | some r => r.args.getD i 0 | none => 0

/-! ## The begin (R139) -/

/-- R139: the range of end_v: its bottom and its top. -/
def endVRange (testV : Nat) : Nat × Nat := (testV + 50, max 5000 (testV + 50))

/-- R139: the arguments as taken: 0 is replaced, another value is clamped, and end_v's 4700 is clamped too. -/
def takeTestArgs (testV minutes depth endV : Nat) : List Nat :=
  let r := endVRange testV
  [if minutes = 0 then 180 else clampNat 10 600 minutes,
   if depth = 0 then 30 else clampNat 10 80 depth,
   clampNat r.1 r.2 (if endV = 0 then 4700 else endV)]

/-- R139: the first begin condition that fails. -/
def State.testBar (s : State) : Option Nat :=
  if s.mode.mode != .attended then some 1
  else if s.mains.source != .grid then some 2
  else if s.gen.state != .off || s.running then some 3
  else if s.charge.regime != .float then some 4
  else if !s.allFull then some 5
  else if s.lvd != .normal then some 6
  else if s.severityStands .critical then some 7
  else none

/-- R139: a test string at the begin. -/
def testMember (st : Settings) (n : Fin 4) : TestString := ⟨n, stringSetting st n 1 * 360000, 0, 0, 0, none⟩

/-- R139, R140: the test begins, in LOWERING. -/
def beginTest (args : List Nat) (w : Work) : Work :=
  let w := beginOp sTest .dischargeTest .host none args w
  let test : TestRec :=
    { phase := .lowering
      step := 0
      setpoint := w.charge.setpoint
      testV := w.setting 0x0203
      s0 := w.charge.setpoint
      minutes := 0
      lowest := w.reads cBusV
      endCount := none
      lowCount := none
      members := w.serviceSet.map (testMember w.settings)
      stepTimer := some (w.timerMs Config.testStepMs)
      minuteTimer := none
      limitTimer := none }
  regimeToTest { w with test := test }

/-! ## The result (R144) -/

/-- R144: a string's entry of the result, of a test that ended in `phase`: in LOWERING every figure shows 0. -/
def TestString.entry (phase : TestPhase) (m : TestString) : TestEntry :=
  match phase with
  | .lowering => ⟨m.index, 0, some 0, 0, 0⟩
  | .discharging => ⟨m.index, m.delivered / 36000, m.lastV, m.dischargeScans / 60, m.skippedScans⟩

/-- R144: the result. -/
def TestRec.result (t : TestRec) (reason : Option EndReason) : OpResult :=
  .test reason t.phase t.minutes t.lowest (t.members.map (TestString.entry t.phase))

/-- R144: the test_result of each test string is written. -/
def writeTestResults (t : Termination) (w : Work) : Work :=
  forEach w.test.members (fun m v =>
    let e := m.entry w.test.phase
    { v with strings := v.strings.modify m.index fun r =>
        { r with test := some ⟨e.delivered, e.lastV, e.minutes, t, v.siteSeconds⟩ } }) w

/-- R144: TEST_SHORTFALL for each test string short of its depth, string by string (the order is DESIGN CHOICE,
notes/assumptions/65.md). -/
def giveShortfalls (w : Work) : Work :=
  forEach w.test.members (fun m v =>
    onlyIf (decide (100 * m.delivered < v.testArg 1 * m.cRated)) (momentary pTestShortfall .part (m.index.val + 1)) v) w

/-- R144 step 1: the test's timers stop. -/
def stopTestTimers (w : Work) : Work :=
  { w with test := { w.test with stepTimer := none, minuteTimer := none, limitTimer := none } }

/-- R144: RESTORING. -/
def restore (t : Termination) (c : Cause) (reason : Option EndReason) (w : Work) : Work :=
  w |> stopTestTimers
    |> releaseRegime
    |> writeTestResults t
    |> onlyIf (reason == some .endVoltage) giveShortfalls
    |> finishOp sTest t c (w.test.result reason)

/-- R142: an occupied test is aborted. -/
def abortTest (c : Cause) (w : Work) : Work := if w.occupied sTest then restore .aborted c none w else w

/-! ## The aborts (R142) -/

/-- R142: string `n` is a test string. -/
def State.testMember (s : State) (n : Fin 4) : Bool := s.test.members.any fun m => m.index == n

/-- R142: the grid is no longer qualified. -/
def testGridMoved (w : Work) : Work := if w.mains.qualified then w else abortTest .sourceChanged w

/-- R142: a THERMAL claim was asserted on string `n`. -/
def testThermalAsserted (n : Fin 4) (w : Work) : Work := if w.testMember n then abortTest .thermal w else w

/-- R142: the LVD stage left NORMAL. -/
def testLvdMoved (w : Work) : Work := if w.lvd == .normal then w else abortTest .lowVoltage w

/-- R142: string `n` left service: LOW_VOLTAGE while an LVD claim decides its target, FAULT otherwise. -/
def testLeftService (n : Fin 4) (w : Work) : Work :=
  if w.testMember n then
    abortTest (if (w.targets.get (stringTarget n)).decider == .lvd then .lowVoltage else .fault) w
  else w

/-- R142: running detected while the controller stands in OFF. -/
def testEngine (w : Work) : Work := if w.gen.state == .off && w.running then abortTest .generatorStart w else w

/-! ## The course (R140, R141, R143) -/

/-- R140: the test setpoint at step `k`. -/
def testSetpoint (s0 testV : Int) (k : Nat) : Int := s0 + truncDiv ((testV - s0) * k) 16

/-- R140: the step timer expires: the next step, and after step 16 DISCHARGING. -/
def testStepTaken (due : Nat) (w : Work) : Work :=
  let t := w.test
  let k := t.step + 1
  let t := { t with step := k, setpoint := testSetpoint t.s0 t.testV k }
  if k < 16 then { w with test := { t with stepTimer := some ⟨due, due + Config.testStepMs⟩ } }
  else
    { w with test := { t with
        stepTimer := none, phase := .discharging,
        minuteTimer := some (w.timerS 60), limitTimer := some (w.timerS (w.testArg 0 * 60)) } }

/-- R141, R143: the minute timer expires; a STOPPING test goes to RESTORING. -/
def testMinuteOver (due : Nat) (w : Work) : Work :=
  let t := w.test
  let w : Work := { w with test := { t with minutes := t.minutes + 1, minuteTimer := some ⟨due, due + 60000⟩ } }
  if w.slotRunning sTest then w
  else if w.occupied sTest then restore .stopped .none none w
  else w

/-- R141: the time limit expires. -/
def testLimitOver (w : Work) : Work := if w.slotRunning sTest then restore .completed .none (some .time) w else w

/-- R143: END on a RUNNING test. -/
def endTest (w : Work) : Work :=
  let w := stopOp sTest .stopped .none w
  match w.test.phase with
  | .lowering => restore .stopped .none none w
  | .discharging => w

/-- R141 step 1: a test string at a scan. -/
def scanMember (s : State) (m : TestString) : TestString :=
  let m := match s.reads (cStrI m.index) with
    | some i =>
      if i < 0 then { m with delivered := m.delivered + i.natAbs, dischargeScans := m.dischargeScans + 1 } else m
    | none => { m with skippedScans := m.skippedScans + 1 }
  match s.reads (cStrV m.index) with
  | some v => { m with lastV := some v }
  | none => m

/-- R141 step 2: the lowest BUS_V. -/
def lowestAfter (lowest bus : Option Int) : Option Int :=
  match lowest, bus with
  | none, b => b
  | some l, some b => some (min l b)
  | some l, none => some l

/-- R141 steps 4 and 5: a count at a scan, against a level. -/
def countBelow (level : Int) (bus : Option Int) (count : Option Nat) : Option Nat :=
  match bus with
  | some v => if v ≤ level then (match count with | some k => some (k + 1) | none => some 0) else none
  | none => count

/-- R141: a count has reached 10. -/
def countReached (c : Option Nat) : Bool := match c with | some k => decide (10 ≤ k) | none => false

/-- R141 step 3: the depth is reached. -/
def State.depthReached (s : State) : Bool :=
  decide (s.testArg 1 * (s.test.members.map (·.cRated)).sum ≤ 100 * (s.test.members.map (·.delivered)).sum)

/-- R141 steps 1 and 2; in LOWERING only the lowest BUS_V is kept (R140). -/
def testCounts (w : Work) : Work :=
  let t := w.test
  let members := if t.phase == .discharging then t.members.map (scanMember w.toState) else t.members
  { w with test := { t with members := members, lowest := lowestAfter t.lowest (w.reads cBusV) } }

/-- R141 step 5, R142: the low-voltage count. -/
def testLowVoltage (w : Work) : Work :=
  let c := countBelow (w.test.testV + 20) (w.reads cBusV) w.test.lowCount
  let w : Work := { w with test := { w.test with lowCount := c } }
  if countReached c then abortTest .lowVoltage w else w

/-- R141 steps 4 and 5. -/
def testEndVoltage (w : Work) : Work :=
  let c := countBelow (w.testArg 2) (w.reads cBusV) w.test.endCount
  let w : Work := { w with test := { w.test with endCount := c } }
  if countReached c then restore .completed .none (some .endVoltage) w else testLowVoltage w

/-- R140, R141: the test's work at a scan completion. Depth and end voltage are tested in DISCHARGING only while the
slot is RUNNING. -/
def testWork (w : Work) : Work :=
  if !w.occupied sTest then w else
  let w := testCounts w
  if w.test.phase == .discharging && w.slotRunning sTest then
    (if w.depthReached then restore .completed .none (some .depth) w else testEndVoltage w)
  else testLowVoltage w

end Sys2Proof.Machine
end

