-- ==== Sys2Proof/Machine/Mode.lean ====
section
/-! DEFINITION. The mode supervisor (11_site_hold.md): the supervision timer, HOLD entry and the autonomy allowance. -/

namespace Sys2Proof.Machine

/-- R159: the code of a mode. -/
def Mode.code : Mode → Nat
  | .attended => 0 | .hold => 1

/-- R159: the code of a cause. -/
def ModeCause.code : ModeCause → Nat
  | .silent => 1 | .startup => 2 | .host => 3

/-- R159: a change of mode, with its MODE entry. -/
def changeMode (m : Mode) (c : ModeCause) (w : Work) : Work :=
  { w with mode := { w.mode with mode := m, cause := c, entered := w.siteSeconds } }
  |> writeLog .mode m.code (if c == .host then .host else .part) (some c.code)

/-- R160: the supervision timer of t_sup, started now; stopped when t_sup is 0. -/
def State.supervision (s : State) : Option Timer :=
  if s.setting 0x0800 = 0 then none else some (s.timerS (s.setting 0x0800))

/-- R160: the supervision timer is started afresh. -/
def startSupervision (w : Work) : Work := { w with mode := { w.mode with timer := w.supervision } }

/-! ## HOLD entry (R161) -/

/-- R27: an AUX relay is placed in its hold state. -/
def placeAux (r : Fin 14) (state : Nat) (w : Work) : Work :=
  if state = 1 then setRelay r false w else if state = 2 then setRelay r true w else w

/-- R27: both AUX relays are placed in their hold states. -/
def placeAuxRelays (w : Work) : Work :=
  w |> placeAux rAux1 (w.setting 0x0820) |> placeAux rAux2 (w.setting 0x0821)

/-- R164: the allowance stop, for a run whose reason is not EMERGENCY. -/
def allowanceStop (w : Work) : Work :=
  if w.genReason == some .emergency then w else takeStop .allowance .completed .allowance w

/-- R161: HOLD entry. The owners stand in no order; the model takes the arbiter, the AUX relays, the test and the allowance
stop in turn, which fixes the order of their log entries (DESIGN CHOICE, notes/assumptions/51.md). -/
def holdEntry (w : Work) : Work :=
  w |> withdrawHost
    |> placeAuxRelays
    |> abortTest .hostSilent
    |> fun v => onlyIf v.allowanceSpent allowanceStop v

/-! ## The supervision timer (R160) -/

/-- R160, R162: a frame of a known kind arrives. -/
def frameArrival (w : Work) : Work :=
  (if w.mode.mode == .hold then w |> changeMode .attended .host |> handCondition pHostSilent false 0 else w)
  |> startSupervision

/-- R160: the supervision timer expires. -/
def supervisionExpiry (w : Work) : Work :=
  let attended := w.mode.mode == .attended
  { w with mode := { w.mode with timer := none } }
  |> onlyIf attended (fun v => v |> changeMode .hold .silent |> holdEntry)
  |> handCondition pHostSilent true (w.setting 0x0800)

/-! ## The allowance (R163, R164) -/

/-- R163, R164: remaining takes a value, with ALLOWANCE_OUT; reaching 0 in HOLD makes the allowance stop, after the point has
been handed its condition (DESIGN CHOICE, notes/assumptions/52.md). -/
def setRemaining (v : Nat) (w : Work) : Work :=
  let reached := decide (v = 0) && decide (w.mode.remaining ≠ 0) && w.mode.mode == .hold
  { w with mode := { w.mode with remaining := v, holdOnloadS := 0 } }
  |> handCondition pAllowanceOut (decide (v = 0)) (w.setting 0x0801)
  |> onlyIf reached allowanceStop

/-- R163: the allowance's second. -/
def allowanceTick (w : Work) : Work :=
  if w.mode.mode == .hold && w.gen.state.onload then
    if w.mode.holdOnloadS + 1 < 60 then
      { w with mode := { w.mode with holdOnloadS := w.mode.holdOnloadS + 1 } }
    else setRemaining (w.mode.remaining - 1) w
  else w

/-- R163: a write of allowance_min. -/
def allowanceRenewed (w : Work) : Work := setRemaining (w.setting 0x0801) w

end Sys2Proof.Machine
end

