-- ==== Sys2Proof/Machine/Scheduler.lean ====
section
/-! DEFINITION. Run decisions, fuel and the clock (07_run_decisions_and_fuel.md). -/

namespace Sys2Proof.Machine

/-! ## Fuel (R115, R116) -/

/-- R115: the estimate brought up to date. -/
def updateEstimate (w : Work) : Work :=
  let c := w.meas.channels.get cFuelL
  match c.status, c.value with
  | .valid, some l => { w with sched := { w.sched with estimate := l.toNat * 10, loadedS := 0, runningS := 0 } }
  | _, _ =>
    let burnt := w.sched.loadedS / 60 * w.setting 0x050A + w.sched.runningS / 60 * w.setting 0x050B
    let sched := w.sched
    { w with sched := { sched with
        estimate := sched.estimate - burnt, loadedS := sched.loadedS % 60, runningS := sched.runningS % 60 } }

/-- R117: the levels of the working settings, which take effect at the next evaluation. -/
def State.fuelLevels (s : State) : FuelLevels := ⟨s.setting 0x050C, s.setting 0x050D⟩

/-- R117: the levels of the working settings take effect. -/
def takeLevels (w : Work) : Work := { w with sched := { w.sched with levels := w.fuelLevels } }

/-- R116: the reserve after it stood at `before`, by the levels in force (R117). -/
def State.reserveAfter (s : State) (before : Bool) : Bool :=
  if before then !(decide (s.sched.levels.reserve + s.sched.levels.hyst ≤ s.sched.estimate) && !s.active iFuelLow)
  else decide (s.sched.estimate ≤ s.sched.levels.reserve) || s.active iFuelLow

/-- R116: the point FUEL_RESERVE, from the first evaluation on (R119). -/
def handReserve (w : Work) : Work :=
  if w.sched.evaluated then handCondition pFuelReserve w.sched.reserve (w.sched.estimate / 10 : Nat) w else w

/-- R116: the reserve is formed. -/
def formReserve (w : Work) : Work :=
  { w with sched := { w.sched with reserve := w.reserveAfter w.sched.reserve } }

/-- R116: an input change of FUEL_LOW. -/
def fuelLowMoved (w : Work) : Work := w |> formReserve |> handReserve

/-- R115: a write of fuel_fill. -/
def fuelFilled (w : Work) : Work :=
  { w with sched := { w.sched with estimate := w.setting 0x050E * 10, loadedS := 0, runningS := 0 } }

/-- R115: the burn of a second. -/
def fuelTick (w : Work) : Work :=
  if w.gen.state.onload then { w with sched := { w.sched with loadedS := w.sched.loadedS + 1 } }
  else if w.gen.state.fuelOn then { w with sched := { w.sched with runningS := w.sched.runningS + 1 } }
  else w

/-! ## The conditions for the maintenance centre (R114, R116) -/

/-- R114: LOW_CHARGE's condition. -/
def State.lowCharge (s : State) : Bool :=
  match s.minSocC with | some m => decide (m ≤ s.setting 0x0500) | none => false

/-- R108, R114: full_interval_days is not 0 and the maximum time_since_full is at least `k` intervals. -/
def State.fullDue (s : State) (k : Nat) : Bool :=
  match s.maxSinceFull with
  | some t => decide (s.setting 0x0503 ≠ 0) && decide (k * s.setting 0x0503 * 86400 ≤ t)
  | none => false

/-- R114: the string with the maximum time_since_full, counted from 1; the lowest on a tie. -/
def State.mostOverdue (s : State) : Nat :=
  match s.serviceSet.find? fun n => some (s.strings.get n).sinceFull == s.maxSinceFull with
  | some n => n.val + 1
  | none => 0

/-- R114, R116: the four conditions of an evaluation. -/
def formRunPoints (w : Work) : Work :=
  let sender := (w.meas.channels.get cFuelL).status
  w |> handCondition pLowCharge w.lowCharge ((w.minSocC.getD 0 : Nat) : Int)
    |> handCondition pFullOverdue (w.fullDue 2) (if w.fullDue 2 then (w.mostOverdue : Int) else 0)
    |> handReserve
    |> handCondition pFuelSender (sender != .valid && sender != .disabled) 19

/-! ## The start latch (R110) -/

/-- R110: the latch clears at an evaluation with the minimum SOC_c at start_soc + 100 or above. -/
def testLatch (w : Work) : Work :=
  match w.minSocC with
  | some m => if w.setting 0x0500 + 100 ≤ m then { w with sched := { w.sched with latch := false } } else w
  | none => w

/-- R110: the latch clears when the grid becomes qualified. -/
def clearLatch (w : Work) : Work :=
  if w.mains.qualified then { w with sched := { w.sched with latch := false } } else w

/-! ## Stops (R111) -/

/-- R111: what a run's reason makes of the conditions: the stop code of the condition that holds. -/
def State.stopCondition (s : State) : Option StopCode :=
  let inFloat := s.charge.regime == .float
  let charged := match s.minSoc with | some m => decide (s.setting 0x0501 ≤ m) | none => false
  match s.genReason with
  | some .cycle => if inFloat then some .condition else none
  | some .host =>
    if s.genMinutes = 0 then (if inFloat then some .condition else none)
    else if s.genMinutes * 60 ≤ s.gen.onload then some .duration else none
  | some _ => if charged || inFloat then some .condition else none
  | none => none

/-- R111: the stop conditions of a run in flight. -/
def testStops (w : Work) : Work :=
  if w.genKind .run && w.gen.state == .onloadRunning && decide (w.setting 0x0407 * 60 ≤ w.gen.onload) then
    match w.stopCondition with
    | some code => takeStop code .completed .none w
    | none => w
  else w

/-! ## Starts (R108, R109) -/

/-- R108: the reasons in their order. -/
def startReasons : List Reason := [.emergency, .lowVoltage, .lowCharge, .cycle]

/-- R108: a reason holds. -/
def State.reasonHolds (s : State) : Reason → Bool
  | .emergency => s.watch wLvdWarn
  | .lowVoltage => s.watch wGenStartLow
  | .lowCharge => s.lowCharge
  | .cycle => s.fullDue 1
  | .exerciseConverted => false
  | .host => false

/-- R109: the quiet window bars a start. -/
def State.quietBars (s : State) : Bool :=
  s.quiet && !(match s.minSocC with | some m => decide (m ≤ s.setting 0x0506) | none => false)

/-- R109: a gate bars a start. -/
def State.gateBars (s : State) : Gate → Bool
  | .reserve => s.sched.reserve
  | .allowance => s.allowanceSpent
  | .latch => s.sched.latch
  | .quiet => s.quietBars

/-- R108: the gates of a reason, in their order. -/
def gatesOf : Reason → List Gate
  | .lowVoltage => [.reserve, .allowance, .latch]
  | .lowCharge => [.reserve, .allowance, .latch, .quiet]
  | .cycle => [.reserve, .allowance, .latch, .quiet]
  | _ => []

/-- R108: the search through the reasons; `barred` is the first that held and was barred, with its gate. -/
def searchReasons (s : State) (barred : Option (Reason × Gate)) : List Reason → Decision
  | [] => match barred with | some (r, g) => .gated r g | none => .noReason
  | r :: rest =>
    if s.reasonHolds r then
      match (gatesOf r).find? s.gateBars with
      | none => .started r
      | some g => searchReasons s (some (barred.getD (r, g))) rest
    else searchReasons s barred rest

/-- R108: the start decision. -/
def State.startDecision (s : State) : Decision :=
  if s.gen.state.inRun then .notConsidered 1
  else if s.gen.state == .lockout then .notConsidered 2
  else if s.mains.qualified then .notConsidered 3
  else if s.occupied sTest then .notConsidered 4
  else searchReasons s none startReasons

/-- R107 step 6: the chances of a scheduled equalize and a scheduled rotation. -/
def giveChances (w : Work) : Work := w |> scheduledEqualize |> scheduledRotation

/-- R107 step 5: the outcome is recorded; a run that was started goes on before it is (DESIGN CHOICE, notes/assumptions/13.md). -/
def decideStart (w : Work) : Work :=
  let d := w.startDecision
  let w : Work := { w with sched := { w.sched with outcome := d, lastEval := w.siteSeconds } }
  match d with
  | .started r => w |> startRun .run .schedule (some r) 0 |> raise (.evaluationEnd r)
  | _ => giveChances w

/-- R107: the rest of an evaluation that started a run. -/
def endEvaluation (r : Reason) (w : Work) : Work :=
  giveChances { w with sched := { w.sched with outcome := .started r, lastEval := w.siteSeconds } }

/-- R107: a scheduler evaluation; written levels take effect first (R117). One that a state change makes within 10 s of a
restart is made like any other, before the first one that R119 names (DESIGN CHOICE, notes/assumptions/70.md). -/
def evaluate (w : Work) : Work :=
  let w := updateEstimate w
  let w := formReserve (takeLevels w)
  { w with sched := { w.sched with evaluated := true } }
  |> formRunPoints |> testLatch |> testStops |> decideStart

/-- R107: the evaluation paced at 10 s. -/
def pacedEvaluation (w : Work) : Work :=
  let w : Work := { w with evalCount := w.evalCount + 1 }
  w |> reachMs (w.evalCount * Config.evaluationMs) |> evaluate

/-! ## The clock and the exercise (R113, R118) -/

/-- R118: a clock one second later. -/
def Clock.next (c : Clock) : Clock :=
  if c.second < 59 then { c with second := c.second + 1 }
  else if c.minute < 1439 then ⟨c.day, c.minute + 1, 0⟩
  else if c.day < 6 then ⟨c.day + 1, 0, 0⟩
  else ⟨0, 0, 0⟩

/-- R113: the first condition that bars the exercise. -/
def State.exerciseBar (s : State) : Option Nat :=
  if s.gen.state.inRun then some 1
  else if s.gen.state == .lockout then some 2
  else if s.sched.reserve then some 3
  else if s.allowanceSpent then some 4
  else if s.occupied sTest then some 5
  else none

/-- R113: the exercise has fallen due. -/
def exerciseDue (w : Work) : Work :=
  match w.exerciseBar with
  | none => startRun .exercise .schedule none (w.setting 0x0509) w
  | some d => writeLog .exerciseSkipped (w.setting 0x0507) .schedule (some d) w

/-- R118, R113: the clock's second. -/
def clockTick (w : Work) : Work :=
  match w.clock with
  | none => w
  | some c =>
    let c' := c.next
    let due := c'.second = 0 ∧ c'.day = w.setting 0x0507 ∧ c'.minute = w.setting 0x0508
    let w : Work := { w with clock := some c' }
    if due then exerciseDue w else w

/-! ## After a restart (R119) -/

/-- R119: the scheduler record after a restart, with the estimate given. The reserve is formed as R116 forms it from clear,
at a warm restart too (DESIGN CHOICE, notes/assumptions/49.md). The levels of the working settings are in force. -/
def restartScheduler (s : State) (estimate : Nat) : Scheduler :=
  let r := decide (estimate ≤ s.setting 0x050C) || s.active iFuelLow
  ⟨false, r, estimate, 0, 0, 0, .notConsidered 1, false, s.fuelLevels⟩

end Sys2Proof.Machine
end

