-- ==== Sys2Proof/Machine/Inputs.lean ====
section
/-! DEFINITION. The contact inputs (02_contact_inputs_and_relay_outputs.md): polarity, debounce and the input change
event with its consumers. -/

namespace Sys2Proof.Machine

/-- R18: a contact's active state under a polarity, 0 ACTIVE_CLOSED or 1 ACTIVE_OPEN. -/
def activeOf (closed : Bool) (polarity : Nat) : Bool := if polarity = 0 then closed else !closed

/-- R18: the active state that input `i` has with a contact, under its polarity setting. -/
def State.activeWith (s : State) (i : Fin 16) (closed : Bool) : Bool := activeOf closed (s.setting (0x0810 + i.val))

/-- R17: what the consumers of input `i` do at its input change event. -/
def consumeInput (i : Fin 16) (w : Work) : Work :=
  match i.val with
  | 0 => raise .engine w
  | 1 => raise .engine w
  | 2 => raise .engine w
  | 3 => fuelLowMoved w
  | 4 => handMoved w
  | 5 => handCondition pDoor (w.active iDoor) 0 w
  | 6 => handCondition pSmoke (w.active iSmoke) 0 w
  | 7 => handCondition pUser (w.active iUser) 0 w
  | 10 => auxMoved 0 w
  | 11 => auxMoved 1 w
  | 12 => auxMoved 2 w
  | 13 => auxMoved 3 w
  | 14 => auxMoved 4 w
  | _ => w

/-- R19: the active field of input `i` is formed afresh; a change is the input change event. -/
def formActive (i : Fin 16) (w : Work) : Work :=
  let r := w.inputs.get i
  let a := w.activeWith i r.contact
  if a == r.active then w else
  { w with inputs := w.inputs.set i { r with active := a, changed := true, stamp := w.siteSeconds } }
  |> noteService w.toState
  |> consumeInput i

/-- R19: the debounced contact of input `i` takes a new level. -/
def takeContact (i : Fin 16) (closed : Bool) (w : Work) : Work :=
  if (w.inputs.get i).contact == closed then w else
  { w with inputs := w.inputs.modify i fun r => { r with contact := closed, interval := none } } |> formActive i

/-- R19: a contact is sampled, each millisecond. The sample that begins an interval counts none; the 50th after it ends
it. -/
def sampleContact (i : Fin 16) (closed : Bool) (w : Work) : Work :=
  let r := w.inputs.get i
  let w := reachMs (r.samples + 1) { w with inputs := w.inputs.set i { r with samples := r.samples + 1 } }
  let interval := fun (k : Option Nat) (v : Work) =>
    { v with inputs := v.inputs.modify i fun x => { x with interval := k } }
  if r.contact == closed then interval none w
  else match r.interval with
    | none => interval (some 0) w
    | some k => if k + 1 < Config.debounceSamples then interval (some (k + 1)) w else takeContact i closed w

/-- R23: an input as sampled at a restart. -/
def State.restartInput (s : State) (i : Fin 16) (closed : Bool) : Input :=
  ⟨closed, s.activeWith i closed, false, 0, none, 0⟩

end Sys2Proof.Machine
end

