-- ==== Sys2Proof/Machine/Strings.lean ====
section
/-! DEFINITION. String accounting (03_string_accounting.md): the work of a scan, enrolment, synchronisation and the
records after a restart. -/

namespace Sys2Proof.Machine

/-- R34: the capacity factor f, in /1024. -/
def capacityFactor (kCap : Nat) (tCap : Int) : Nat :=
  (clampInt 768 1088 (1024 + truncDiv ((kCap : Int) * (tCap - 250)) 10)).toNat

/-- R34: C_rated_cAs. -/
def ratedCharge (cRated : Nat) : Nat := cRated * 360000

/-- R34: C_eff of string `n` at `tCap`. -/
def effectiveCapacity (st : Settings) (n : Fin 4) (tCap : Int) : Nat :=
  ratedCharge (stringSetting st n 1) * capacityFactor (getSetting st 0x0140) tCap / 1024

/-- R33: T_cap and T_source of string `n`. -/
def State.chooseTCap (s : State) (n : Fin 4) : Int × TempSource :=
  match s.reads (cStrT n) with
  | some t => (t, .string)
  | none =>
    match s.reads cAmbT with
    | some t => (t, .ambient)
    | none => (250, .default)

/-- R36: the change of charge ΔQ of a counted scan. -/
def chargeChange (st : Settings) (n : Fin 4) (i : Int) : Int :=
  if 0 < i then (i * stringSetting st n 2) / 1024
  else if i.natAbs ≤ stringSetting st n 4 then -(i.natAbs : Int)
  else -(ceilDiv (i.natAbs * stringSetting st n 3) 1024 : Nat)

/-- R37: SOC. -/
def socOf (q cEff : Nat) : Nat := 1000 * q / cEff

/-- R37: SOC_c. -/
def socCOf (q u cEff : Nat) : Nat := 1000 * (q - u) / cEff

/-- R39: the charge below which the full marker clears. -/
def fullThreshold (st : Settings) (cEff : Nat) : Nat := cEff * (1000 - getSetting st 0x0141) / 1000

/-- R32 step 1 (R33, R34): the capacity, with the clamp of Q and U. -/
def scanCapacity (st : Settings) (n : Fin 4) (t : Int × TempSource) (r : StringRec) : StringRec :=
  let cEff := effectiveCapacity st n t.1
  { r with tCap := t.1, tSource := t.2, cEff := cEff, q := min r.q cEff, u := min r.u cEff }

/-- R32 steps 2 and 3 (R35, R36): a counted scan takes the current and counts its charge; a skipped scan widens U. -/
def scanCurrent (st : Settings) (n : Fin 4) (current : Option Int) (r : StringRec) : StringRec :=
  match current with
  | some i => { r with lastI := some i, q := (clampInt 0 r.cEff (r.q + chargeChange st n i)).toNat }
  | none =>
    let missed := match r.lastI with | some i => i.natAbs | none => stringSetting st n 4
    { r with u := min r.cEff (r.u + missed) }

/-- R37: SOC and SOC_c formed from Q, U and C_eff. -/
def formSoc (r : StringRec) : StringRec := { r with soc := socOf r.q r.cEff, socC := socCOf r.q r.u r.cEff }

/-- R38: the phase. -/
def scanPhase (st : Settings) (current : Option Int) (service : Bool) (r : StringRec) : StringRec :=
  { r with phase :=
      if !service then .isolated
      else match current with
        | some i =>
          if (getSetting st 0x0142 : Int) < i then .charging
          else if i < -(getSetting st 0x0142 : Int) then .discharging
          else .resting
        | none => if r.phase == .isolated then .resting else r.phase }

/-- R39: the clearing of the full marker. -/
def scanMarker (st : Settings) (r : StringRec) : StringRec :=
  { r with full := r.full && !decide (r.q < fullThreshold st r.cEff) }

/-- R40: the tail count, before it is compared with T_tail. -/
def scanTail (st : Settings) (n : Fin 4) (current : Option Int) (tailing : Bool) (r : StringRec) : StringRec :=
  { r with tail :=
      match current with
      | some i => if tailing && decide (0 ≤ i ∧ i ≤ stringSetting st n 5) then r.tail + 1 else 0
      | none => 0 }

/-- R40, R44: the string is synchronised as full. -/
def synchronised (r : StringRec) : StringRec :=
  { r with q := r.cEff, u := 0, soc := 1000, socC := 1000, full := true, sinceFull := 0, tail := 0 }

/-- R41: the time since full. -/
def scanSinceFull (r : StringRec) : StringRec :=
  if r.full then r else { r with sinceFull := min Config.elapsedTop (r.sinceFull + 1) }

/-- R32 steps 1 to 6 for string `n`, with its temperature, its current (`none` on a skipped scan), whether it is in
service and whether the regime lets a tail count. -/
def scanString (st : Settings) (n : Fin 4) (t : Int × TempSource) (current : Option Int) (service tailing : Bool)
    (r : StringRec) : StringRec :=
  r |> scanCapacity st n t |> scanCurrent st n current |> formSoc |> scanPhase st current service |> scanMarker st
    |> scanTail st n current (tailing && service)

/-- R40: the tail count has reached T_tail. -/
def tailComplete (st : Settings) (n : Fin 4) (r : StringRec) : Bool :=
  decide (0 < r.tail) && decide (stringSetting st n 6 ≤ r.tail)

/-- R32: the work of a scan on an enrolled string, with STRING_FULL (R40), the clearing of its marker handed to the
regime (R53) and a change of its phase to the arbiter (R122). -/
def accountString (n : Fin 4) (w : Work) : Work :=
  if !w.enrolled n then w else
  let old := w.strings.get n
  let service := w.inService n
  let tailing := w.charge.regime == .absorb || w.charge.regime == .equalize
  let r := scanString w.settings n (w.chooseTCap n) (w.reads (cStrI n)) service tailing old
  let full := tailComplete w.settings n r
  let r' := scanSinceFull (if full then synchronised r else r)
  { w with strings := w.strings.set n r' }
  |> onlyIf full (writeLog .stringFull (n.val + 1) .part (some r.soc))
  |> onlyIf (old.full && !r.full && service) (raise .markerCleared)
  |> onlyIf (old.phase != r.phase) (raise (.phaseMoved n))

/-- R32: string accounting's work at a scan completion, string by string (the order is DESIGN CHOICE, notes/assumptions/65.md). -/
def accountingWork (w : Work) : Work := forEach (indices 4) accountString w

/-- R42: a newly enrolled string's record at `t`. SOC is R37's figure also where C_eff is odd and R37 gives 499, not R42's 500
(DESIGN CHOICE, notes/assumptions/56.md). -/
def enrolledRecord (st : Settings) (n : Fin 4) (t : Int × TempSource) (fault : Bool) : StringRec :=
  let cEff := effectiveCapacity st n t.1
  formSoc ⟨t.1, t.2, cEff, cEff / 2, cEff, 0, 0, .isolated, false, 0, Config.elapsedTop, none, fault, none⟩

/-- R42: string `n` becomes unenrolled. -/
def unenrolString (n : Fin 4) (w : Work) : Work :=
  { w with strings := w.strings.modify n fun r =>
      { r with phase := .isolated, full := false, tail := 0, lastI := none } }

/-- R42: string `n` becomes enrolled; STR_Tn has no value yet, so T_cap is the ambient's or 250. -/
def enrolString (n : Fin 4) (w : Work) : Work :=
  let t := match w.reads cAmbT with | some t => (t, TempSource.ambient) | none => (250, TempSource.default)
  { w with strings := w.strings.modify n fun r => enrolledRecord w.settings n t r.fault }

/-- R47, R48: a string's record at a cold restart; `item` is its item of a good persistence record. U of a string that is not
enrolled now is clamped and not widened (DESIGN CHOICE, notes/assumptions/66.md), and its figures are those restored (DESIGN
CHOICE, notes/assumptions/67.md). -/
def coldString (st : Settings) (n : Fin 4) (item : Option RecordString) : StringRec :=
  let cEff := effectiveCapacity st n 250
  let fresh := enrolledRecord st n (250, .default) false
  match item with
  | none => fresh
  | some i =>
    let q := min i.q cEff
    let u := min i.u cEff
    if enrolledIn st n then
      if i.enrolled then
        formSoc { fresh with q := q, u := min cEff (u + cEff / 8), sinceFull := i.sinceFull }
      else fresh
    else if i.enrolled then formSoc { fresh with q := q, u := u, sinceFull := i.sinceFull }
    else fresh

/-- R49: a string's record at a warm restart; that of an unenrolled string keeps its figures too (DESIGN CHOICE,
notes/assumptions/67.md). -/
def warmString (r : StringRec) : StringRec := { r with tail := 0, lastI := none, phase := .isolated }

end Sys2Proof.Machine
end

