-- ==== Sys2Proof/Machine/Settle.lean ====
section
/-! DEFINITION. The consequences within one command: which blocks act on an event, in what order, until none is left.

The manual lets a change reach the blocks that act on it "at the moment it comes". The consequences of an event are
taken before the events raised earlier and still waiting (DESIGN CHOICE, notes/assumptions/9.md). -/

namespace Sys2Proof.Machine

/-- R147: the blocks that read a point act on its change of state: the lockout exit (R104) and the thermal release
(R123). -/
def pointActs (p : Fin 41) (w : Work) : Work :=
  if p = pGenFailStart ∨ p = pGenFailRun ∨ p = pGenFailStop then checkLockout w
  else match (indices 4).find? fun n => p == pStringThermal n with
    | some n => releaseThermal n w
    | none => w

/-- What an event makes the blocks do. -/
def handle (e : Event) (w : Work) : Work :=
  match e with
  | .pointMoved p => pointActs p w
  | .genMoved => evaluate w
  | .engine => w |> superviseEngine |> testEngine
  | .lockoutCheck => checkLockout w
  | .gridMoved => w |> formSource |> raise .gridActs
  | .gridActs => w |> testGridMoved |> clearLatch |> evaluate |> gridReturn
  | .leftService n => testLeftService n w
  | .markerCleared => regimeMarkerCleared w
  | .thermalAsserted n => testThermalAsserted n w
  | .lvdMoved => testLvdMoved w
  | .phaseMoved n => testThermal n w
  | .evaluationEnd r => endEvaluation r w
  | .walkinEnded => walkinOver w
  | .unloadEnded => unloadOver w

/-- Takes the events raised until none is left. `fuel` bounds the number of events of one command. -/
def settle (fuel : Nat) (w : Work) : Work :=
  match fuel with
  | 0 => w
  | n + 1 =>
    match w.agenda with
    | [] => w
    | e :: rest =>
      let w' := handle e { w with agenda := [] }
      settle n { w' with agenda := w'.agenda ++ rest }

/-- The most events one command takes; no cascade of the manual comes near it. -/
def settleFuel : Nat := 1000

/-- Takes every event raised so far. -/
def settleAll (w : Work) : Work := settle settleFuel w

end Sys2Proof.Machine
end

