-- ==== Sys2Proof/Machine/Store.lean ====
section
/-! DEFINITION. The settings store (13_settings_persistence_and_restart.md): what an owner does at a write of its setting,
the store and the persistence record. -/

namespace Sys2Proof.Machine

/-! ## What the owners do at a write (R173 step 7) -/

/-- R2, R6, R12: the settings went from `old` to what stands and may have changed the enablement of channels: the records
are reset, and the blocks that read the watches act. The order is DESIGN CHOICE,
notes/assumptions/44.md. The controller acts on a change of running detected made by it (R93; DESIGN CHOICE,
notes/assumptions/58.md). -/
def enablementWritten (old : Settings) (w : Work) : Work :=
  let before := w.meas
  { w with meas := enableRecords old w.settings w.meas }
  |> formSensorFault before.channels
  |> handWatchPoints
  |> gridWork before
  |> raise .engine

/-- R42, R121, R122: str_en of string `n` was changed; `old` is the state before the write. At an unenrolment SERVICE says
OPEN before a THERMAL claim is withdrawn, so that the drive does not change by it. The order in which the write reaches the
blocks otherwise is DESIGN CHOICE, notes/assumptions/44.md: channels and watches, the string, SERVICE, THERMAL, and last a
discharge test. -/
def enrolmentWritten (n : Fin 4) (old : State) (w : Work) : Work :=
  w |> enablementWritten old.settings
    |> (if w.enrolled n then enrolString n else unenrolString n)
    |> noteService old
    |> formService (stringTarget n)
    |> onlyIf (!w.enrolled n) (withdrawThermal n)

/-- R150: the severity of point `p` was written to another value. -/
def severityWritten (p : Fin 41) (w : Work) : Work :=
  let pt := w.points.get p
  let timer := if pt.state == .raised then w.escalationTimer p else none
  { w with points := w.points.set p { pt with escalated := false, timer := timer } } |> formSeverityRelays

/-- R149: the mask of point `p` was changed. -/
def maskWritten (p : Fin 41) (w : Work) : Work :=
  (if w.masked p then makeNormal p .host w
   else if (w.points.get p).effective && !isEventPoint p then
     w |> writeLog .alarmRaised (p.val + 1) .host none |> movePoint p .raised
   else w)
  |> formSeverityRelays

/-- R150: a point at a write of escalate_h. -/
def escalateWritten (s : State) (pt : Point) : Point :=
  let h := s.setting 0x07C0
  if h = 0 then { pt with escalated := false, timer := none }
  else match pt.timer with
    | none => pt
    | some t =>
      let due := pt.raisedAt + h * 3600000
      if due ≤ s.ms then { pt with escalated := true, timer := none } else { pt with timer := some ⟨t.start, due⟩ }

/-- R150: escalate_h was written to another value. -/
def escalationWritten (w : Work) : Work :=
  { w with points := w.points.map (escalateWritten w.toState) } |> formSeverityRelays

/-- R59: the settings that re-form the setpoint at a write. -/
def formsSetpoint (id : Nat) : Bool :=
  id == 0x0200 || id == 0x0201 || id == 0x0202 || id == 0x0204 || id == 0x0205 || id == 0x0206

/-- The point of an id in a group of 41 settings at `base`. -/
def pointOf (base id : Nat) : Option (Fin 41) := indexOf 41 (id - base)

/-- R173 step 7: the owner of setting `id` acts on its change; `old` is the state before the write. Every setting not
named here is read where it is used. -/
def ownerActs (id : Nat) (old : State) (w : Work) : Work :=
  if id = 0x0100 then enrolmentWritten 0 old w
  else if id = 0x0110 then enrolmentWritten 1 old w
  else if id = 0x0120 then enrolmentWritten 2 old w
  else if id = 0x0130 then enrolmentWritten 3 old w
  else if formsSetpoint id then formSetpoint w
  else if id = 0x0207 then absorbMaxWritten w
  else if id = 0x0409 then retryWritten w
  else if id = 0x050E then fuelFilled w
  else if 0x0700 < id ∧ id ≤ 0x0729 then (match pointOf 0x0700 id with | some p => severityWritten p w | none => w)
  else if 0x0780 < id ∧ id ≤ 0x07A9 then (match pointOf 0x0780 id with | some p => maskWritten p w | none => w)
  else if id = 0x07C0 then escalationWritten w
  else if id = 0x0800 then startSupervision w
  else if id = 0x0801 then allowanceRenewed w
  else if 0x0810 ≤ id ∧ id ≤ 0x081F then (match indexOf0 16 (id - 0x0810) with | some i => formActive i w | none => w)
  else if 0x0900 ≤ id ∧ id ≤ 0x0913 then enablementWritten old.settings w
  else w

/-- R173: the settings whose owner acts on every write. -/
def actsAlways (id : Nat) : Bool := id == 0x0801 || id == 0x050E || id == 0x0800

/-- R173 step 7: the working setting takes the value, and its owner acts. -/
def takeSetting (id v : Nat) (w : Work) : Work :=
  let changed := decide (v ≠ w.setting id)
  let w' : Work := { w with settings := putSetting w.settings id v }
  if changed || actsAlways id then ownerActs id w.toState w' else w'

/-! ## The persistence record (R176) -/

/-- R176: the items of the persistence record as they stand. -/
def State.recordItems (s : State) : RecordItems :=
  { strings := Table.ofFn fun n =>
      let r := s.strings.get n
      ⟨s.enrolled n, r.q, r.u, r.sinceFull⟩
    runMinutes := s.shelf.modules.map (·.runMinutes)
    rotMinutes := s.shelf.rotMinutes
    estimate := s.sched.estimate
    remaining := s.mode.remaining }

/-- R176: a write of the persistence record. -/
def writeRecord (w : Work) : Work :=
  let items := w.recordItems
  { w with record := ⟨items, crc16 (recordBytes items), false⟩ }

/-- R176: the hourly write, which is not made while a store is pending. -/
def hourlyWrite (w : Work) : Work :=
  let w : Work := { w with hourCount := w.hourCount + 1 }
  w |> reachMs (w.hourCount * 3600000) |> onlyIf (!w.storePending) writeRecord

/-! ## The store (R175) -/

/-- R175: the store is accepted. -/
def beginStore (w : Work) : Work := { w with storePending := true }

/-- R175: the store ends: the stored copy, then the persistence record. -/
def endStore (w : Work) : Work :=
  if w.storePending then
    { w with storePending := false, stored := ⟨w.settings, settingsChecksum w.settings, false⟩, loaded := w.settings }
    |> writeRecord
    |> writeLog .settingsStored 0 .host none
  else w

/-- R174: the value READ SETTING gives for the stored copy. -/
def State.storedValue (s : State) (id : Nat) : Nat := getSetting s.loaded id

/-! ## Power (R176, R177) -/

/-- R175: a store cut short leaves the stored copy incomplete. -/
def cutStore (c : StoredCopy) (pending : Bool) : StoredCopy := { c with incomplete := c.incomplete || pending }

/-- R175, R176, R28: the part loses power. A part without power has dropped its relays (DEDUCED, notes/assumptions/7.md). -/
def losePower (duringWrite : Bool) (w : Work) : Work :=
  { w with
    powered := false
    relays := Table.fill 14 ⟨false, 0⟩
    stored := cutStore w.stored w.storePending
    record := { w.record with incomplete := w.record.incomplete || duringWrite } }

end Sys2Proof.Machine
end

