-- ==== Sys2Proof/Machine/Requests.lean ====
section
/-! DEFINITION. The host's requests, each by its own rule: its refusals in their order, its effect, and its reply. The
payload length is checked first where a rule gives no order (DEDUCED, notes/assumptions/30.md). A reply is formed when every
consequence of the request has been taken. -/

namespace Sys2Proof.Machine

/-- What a request answers: an acceptance with its record, or a refusal with a reason and a detail. -/
inductive Answer where
  | accept (data : ReplyData)
  | refuse (reason : RefusalReason) (detail : Nat)
deriving DecidableEq, Repr

/-- A refused request is not carried out. -/
def refused (r : RefusalReason) (w : Work) (detail : Nat := 0) : Work × Answer := (w, .refuse r detail)

/-- An accepted request that changes nothing, with its record formed from the state. -/
def accepted (data : ReplyData) (w : Work) : Work × Answer := (w, .accept data)

/-- A request carried out: its consequences are taken, and its record is formed after them. -/
def carriedOut (w : Work) (data : State → ReplyData) : Work × Answer :=
  let w := settleAll w
  (w, .accept (data w.toState))

/-! ## READ IDENTITY, READ PLANT, READ SOURCES (R170, R171) -/

/-- R170. -/
def State.identity (s : State) : ReplyData :=
  .identity Config.partCode Config.protocolLevel (Straps.rate s.link.straps) s.siteSeconds s.lastRestart s.settingsFrom

/-- R170. -/
def reqReadIdentity (p : List Byte) (w : Work) : Work × Answer :=
  if p ≠ [] then refused .badLength w else accepted w.identity w

/-- R171. -/
def State.plant (s : State) : PlantReply :=
  { siteSeconds := s.siteSeconds
    attn := s.attn
    storePending := s.storePending
    mode := s.mode.mode
    modeCause := s.mode.cause
    modeEntered := s.mode.entered
    remaining := s.mode.remaining
    regime := s.charge.regime
    regimeEntered := s.charge.entered
    setpoint := s.charge.setpoint
    allowance := s.allowance
    tComp := s.charge.tComp
    compSource := s.charge.compSource
    guard := s.charge.guard
    eqElapsed := s.charge.eqElapsed
    lTot := s.shelf.lTot
    energized := s.energizedCount
    healthy := s.healthyCount
    nReq := s.shelf.nReq
    source := s.mains.source
    gen := s.gen.state
    lvd := s.lvd
    minSoc := s.minSoc
    minSocC := s.minSocC
    estimate := s.sched.estimate
    reserve := s.sched.reserve
    latch := s.sched.latch
    outcome := s.sched.outcome
    lastEval := s.sched.lastEval
    clock := s.clock }

/-- R171. -/
def reqReadPlant (p : List Byte) (w : Work) : Work × Answer :=
  if p ≠ [] then refused .badLength w else accepted (.plant w.plant) w

/-- R170. -/
def State.sources (s : State) : SourcesReply :=
  { qualified := s.mains.qualified
    gridVOk := s.watch wGridV
    gridFOk := s.watch wGridF
    genVOk := s.watch wGenV
    genFOk := s.watch wGenF
    gridV := s.reads cGridV
    gridF := s.reads cGridF
    genV := s.reads cGenV
    genF := s.reads cGenF
    source := s.mains.source
    changeover := s.mains.changeover
    gapRemainingMs := s.leftMs s.mains.gapTimer
    mainsBreak := s.relayOn rMainsBreak
    genMake := s.relayOn rGenMake
    mainsBreakAux := s.active iMainsBreakAux
    genMakeAux := s.active iGenMakeAux
    gen := s.gen.state
    attempt := s.gen.attempt
    running := s.running
    onload := s.gen.onload
    idling := s.gen.idling
    causes := s.gen.causes
    retryRemainingS := s.leftMs s.gen.retry / 1000 }

/-- R170. -/
def reqReadSources (p : List Byte) (w : Work) : Work × Answer :=
  if p ≠ [] then refused .badLength w else accepted (.sources w.sources) w

/-! ## READ STRING and SYNC STRING (R44, R45) -/

/-- R45. -/
def State.stringReply (s : State) (n : Fin 4) : StringReply :=
  ⟨n, s.enrolled n, s.inService n, stringSetting s.settings n 1, s.strings.get n⟩

/-- R45. -/
def reqReadString (p : List Byte) (w : Work) : Work × Answer :=
  if p.length ≠ 1 then refused .badLength w
  else match indexOf 4 (byteAt p 0) with
    | none => refused .badSubject w
    | some n => accepted (.string (w.stringReply n)) w

/-- R44 step 5: string `n` is synchronised, with its SYNC entry. -/
def syncWork (n : Fin 4) (w : Work) : Work :=
  { w with strings := w.strings.modify n synchronised }
  |> writeLog .sync (n.val + 1) .host (some (w.strings.get n).soc)

/-- R44. -/
def reqSyncString (p : List Byte) (w : Work) : Work × Answer :=
  if p.length ≠ 1 then refused .badLength w
  else match indexOf 4 (byteAt p 0) with
    | none => refused .badSubject w
    | some n =>
      if !w.inService n then refused .state w 1
      else if w.occupied sTest then refused .state w 2
      else carriedOut (syncWork n w) fun s => .string (s.stringReply n)

/-! ## READ MODULE, ENROL and RETIRE (R76 to R78) -/

/-- R78: the module record. -/
def State.moduleReply (s : State) (p : Fin 12) : ModuleReply :=
  let m := s.shelf.modules.get p
  ⟨p, s.moduleEnrolled p, m, s.leftMs m.startTimer / 1000⟩

/-- R78: the shelf record. Its shed seconds are those since the shed timer's last start, which after a shed is not the
beginning of the excess (DESIGN CHOICE, notes/assumptions/46.md). -/
def State.shelfReply (s : State) : ShelfReply :=
  { iDemand := s.shelf.iDemand
    nReq := s.shelf.nReq
    nReqUnclamped := s.shelf.nReqUnclamped
    healthy := s.healthyCount
    energized := s.energizedCount
    target := s.shelf.target
    lTot := s.shelf.lTot
    ramp := s.shelf.ramp.kind
    l0 := s.shelf.ramp.l0
    l1 := s.shelf.ramp.l1
    step := s.shelf.ramp.step
    shedSeconds := s.shelf.shedTimer.map fun t => (s.ms - t) / 1000
    rotMinutes := s.shelf.rotMinutes
    enrolledMask := s.setting 0x0309
    cycle := s.shelf.cycle }

/-- R78. -/
def reqReadModule (p : List Byte) (w : Work) : Work × Answer :=
  if p.length ≠ 1 then refused .badLength w
  else if byteAt p 0 = 0 then accepted (.shelf w.shelfReply) w
  else match indexOf 12 (byteAt p 0) with
    | none => refused .badSubject w
    | some m => accepted (.module (w.moduleReply m)) w

/-- R76. -/
def reqEnrol (p : List Byte) (w : Work) : Work × Answer :=
  if p.length ≠ 2 then refused .badLength w
  else match indexOf 12 (byteAt p 0) with
    | none => refused .badSubject w
    | some m =>
      if 1 < byteAt p 1 then refused .range w
      else if w.storePending then refused .busy w
      else if w.moduleEnrolled m then refused .state w
      else carriedOut (enrolModule m (decide (byteAt p 1 = 1)) w) fun s => .module (s.moduleReply m)

/-- R77 step 5: the module is the incoming or the outgoing module of a rotation in flight. -/
def State.rotating (s : State) (p : Fin 12) : Bool :=
  match s.shelf.rotation with | some r => r.incoming == p || r.outgoing == p | none => false

/-- R77. The rule names no record for the acceptance: it carries the module record after the change, as R76 has it
(DESIGN CHOICE, notes/assumptions/47.md). -/
def reqRetire (p : List Byte) (w : Work) : Work × Answer :=
  if p.length ≠ 1 then refused .badLength w
  else match indexOf 12 (byteAt p 0) with
    | none => refused .badSubject w
    | some m =>
      if w.storePending then refused .busy w
      else if !w.moduleEnrolled m then refused .state w 1
      else if w.rotating m then refused .busy w
      else if w.moduleState m == .online && decide (w.energizedCount < w.shelf.inForce.minOnline + 1) then refused .state w 2
      else carriedOut (retireModule m w) fun s => .module (s.moduleReply m)

/-! ## READ CHANNEL and READ INPUTS (R15, R22) -/

/-- R15: the rate history of a channel. -/
def State.history (s : State) (c : Fin 20) : Option RateHistory :=
  match (indices 5).find? fun r => rateChannel r == c with
  | some r => some (s.meas.rates.get r)
  | none => none

/-- R15: the watches on a channel, in watch-number order. -/
def State.watchList (s : State) (c : Fin 20) : List WatchEntry :=
  ((indices 16).filter fun k => (watchSpec s.settings k).channel == c).map fun k =>
    let w := s.meas.watches.get k
    ⟨k.val + 1, w.state, w.elapsed⟩

/-- R15. -/
def State.channelReply (s : State) (c : Fin 20) : ChannelReply :=
  let r := s.meas.channels.get c
  { id := c
    value := r.reads
    status := r.status
    age := r.age
    rate := (s.history c).bind (·.rate)
    samples := match s.history c with | some h => h.ring.length | none => 0
    watches := s.watchList c }

/-- R15. -/
def reqReadChannel (p : List Byte) (w : Work) : Work × Answer :=
  if p.length ≠ 1 then refused .badLength w
  else match indexOf0 20 (byteAt p 0) with
    | none => refused .badSubject w
    | some c => accepted (.channel (w.channelReply c)) w

/-- R22: the input records of a reply. -/
def State.inputEntries (s : State) : List InputEntry :=
  s.inputs.rows.map fun i => ⟨i.active, i.changed, i.stamp⟩

/-- R22: every changed flag is clear after the reply is formed. -/
def clearChanged (w : Work) : Work := { w with inputs := w.inputs.map fun i => { i with changed := false } }

/-- R22. -/
def reqReadInputs (p : List Byte) (w : Work) : Work × Answer :=
  if p ≠ [] then refused .badLength w else (clearChanged w, .accept (.inputs w.inputEntries))

/-! ## READ ALARMS and READ LOG (R156, R157) -/

/-- R157: a point's record in a reply. -/
def State.pointReply (s : State) (p : Fin 41) : PointReply :=
  let r := s.points.get p
  { point := p
    state := r.state
    raw := r.raw
    effective := r.effective
    proof := r.proof
    mask := s.masked p
    severity := s.severity p
    latching := s.latching p
    effectiveSeverity := s.effectiveSeverity p
    count := r.count
    first := r.first
    last := r.last }

/-- R157: the records from point `p` on, eight or as many as there are. -/
def State.alarms (s : State) (p : Fin 41) : ReplyData :=
  .alarms (((indices 41).filter fun q => decide (p.val ≤ q.val ∧ q.val ≤ p.val + 7)).map s.pointReply)
    s.attn (s.relayOn rAlmCrit) (s.relayOn rAlmMaj) (s.relayOn rAlmMin)

/-- R157. -/
def reqReadAlarms (p : List Byte) (w : Work) : Work × Answer :=
  if p.length ≠ 1 then refused .badLength w
  else match indexOf 41 (byteAt p 0) with
    | none => refused .badSubject w
    | some q => accepted (w.alarms q) w

/-- R156: the GAP flag for a sequence asked from. -/
def logGap (log : List LogEntry) (from_ : Nat) : Bool :=
  decide (from_ ≠ 0 ∧ from_ < oldestSeq log) || decide (newestSeq log + 1 < from_)

/-- R156: the entries returned for a sequence asked from. -/
def logEntries (log : List LogEntry) (from_ : Nat) : List LogEntry :=
  if oldestSeq log ≤ from_ ∧ from_ ≤ newestSeq log + 1 then (log.filter fun e => decide (from_ ≤ e.seq)).take 6
  else log.take 6

/-- R156. -/
def reqReadLog (p : List Byte) (w : Work) : Work × Answer :=
  if p.length ≠ 4 then refused .badLength w
  else
    let s := longAt p 0
    accepted (.log (oldestSeq w.log) (newestSeq w.log) (logGap w.log s) (logEntries w.log s)) w

/-! ## The operation slots (R135 to R137) -/

/-- R133: the progress of an occupied slot. -/
def State.progress (s : State) (k : OpKind) : Progress :=
  match k with
  | .run =>
    let f : KeptFigures := s.gen.kept.getD ⟨s.gen.onload, s.gen.idling, s.gen.attempt⟩
    .generator s.gen.state f.attempt f.onload f.idling
  | .exercise =>
    let f : KeptFigures := s.gen.kept.getD ⟨s.gen.onload, s.gen.idling, s.gen.attempt⟩
    .generator s.gen.state f.attempt f.onload f.idling
  | .equalize => .equalize s.charge.eqMinutes
  | .rotate => .rotate (s.shelf.rotation.map (·.outgoing)) (s.shelf.rotation.map (·.incoming))
  | .dischargeTest =>
    match s.test.phase with
    | .lowering => .lowering s.test.step s.test.setpoint
    | .discharging =>
      .discharging s.test.minutes (s.test.members.map fun m => ⟨m.index, m.delivered⟩) s.test.lowest s.test.endCount
        s.test.lowCount

/-- R137: the record of a slot as it stands. -/
def State.operationReply (s : State) (k : Fin 4) : OperationReply :=
  let r := s.slots.get k
  ⟨k, r, match r with | some r => if r.occupied then some (s.progress r.kind) else none | none => none⟩

/-- R137: a DONE record is read. -/
def markRead (k : Fin 4) (w : Work) : Work :=
  changeOp k (fun r => if r.state == .done then { r with unread := false } else r) w

/-- R137. -/
def reqReadOperation (p : List Byte) (w : Work) : Work × Answer :=
  if p.length ≠ 1 then refused .badLength w
  else match indexOf0 4 (byteAt p 0) with
    | none => refused .badSubject w
    | some k => (markRead k w, .accept (.operation (w.operationReply k)))

/-- R133: the kind of a code. -/
def kindOf (code : Nat) : Option OpKind :=
  match code with
  | 1 => some .run | 2 => some .exercise | 3 => some .equalize | 4 => some .dischargeTest | 5 => some .rotate
  | _ => none

/-- R133: the slot that admits a kind. -/
def OpKind.slot : OpKind → Fin 4
  | .run => sGenerator | .exercise => sGenerator | .equalize => sCharge | .dischargeTest => sTest | .rotate => sShelf

/-- R135: the number of arguments of a kind. -/
def OpKind.argCount : OpKind → Nat
  | .run => 1 | .exercise => 1 | .equalize => 1 | .dischargeTest => 3 | .rotate => 0

/-- R135: the arguments a BEGIN carries, two bytes each. -/
def argsAt (p : List Byte) (n : Nat) : List Nat := (List.range n).map fun i => wordAt p (2 + 2 * i)

/-- R63, R112, R139: the arguments as taken. An exercise of 0 takes exercise_min as the setting stands (DESIGN CHOICE,
notes/assumptions/63.md). -/
def State.takeArgs (s : State) (k : OpKind) (given : List Nat) : List Nat :=
  let a := given.getD 0 0
  match k with
  | .run => [if a = 0 then 0 else clampNat 10 720 a]
  | .exercise => [if a = 0 then s.setting 0x0509 else clampNat 5 60 a]
  | .equalize => [if a = 0 then s.setting 0x0209 else clampNat 1 12 a]
  | .dischargeTest => takeTestArgs (s.setting 0x0203) a (given.getD 1 0) (given.getD 2 0)
  | .rotate => []

/-- R135 step 6: CHARGE and TEST bar each other. -/
def State.slotBarred (s : State) (k : Fin 4) : Bool :=
  (k == sCharge && s.occupied sTest) || (k == sTest && s.occupied sCharge)

/-- R135 step 7: the first begin condition that fails (R63, R112, R139). -/
def State.beginBar (s : State) (k : OpKind) : Option Nat :=
  match k with
  | .run => if s.occupied sTest then some 1 else if s.gen.state == .lockout then some 2 else none
  | .exercise => if s.occupied sTest then some 1 else if s.gen.state == .lockout then some 2 else none
  | .equalize => s.equalizeBar
  | .dischargeTest => s.testBar
  | .rotate => none

/-- R135 step 8: the owner starts its course, with the arguments taken. -/
def beginKind (k : OpKind) (args : List Nat) (w : Work) : Work :=
  match k with
  | .run => startRun .run .host (some .host) (args.headD 0) w
  | .exercise => startRun .exercise .host none (args.headD 0) w
  | .equalize => beginEqualize .host (args.headD 0) w
  | .dischargeTest => beginTest args w
  | .rotate => beginRotation .host w

/-- R135. -/
def reqBegin (p : List Byte) (w : Work) : Work × Answer :=
  if p.length < 2 then refused .badLength w
  else match indexOf0 4 (byteAt p 0) with
    | none => refused .badSubject w
    | some slot =>
      match kindOf (byteAt p 1) with
      | none => refused .range w
      | some k =>
        if k.slot ≠ slot then refused .range w
        else if p.length ≠ 2 + 2 * k.argCount then refused .badLength w
        else if w.occupied slot then refused .busy w 1
        else if w.slotBarred slot then refused .busy w 2
        else
          let given := argsAt p k.argCount
          let args := w.takeArgs k given
          match w.beginBar k with
          | some d => refused .state w d
          | none => carriedOut (beginKind k args w) fun s => .begun (args != given) args (s.operationReply slot)

/-- R110: an END sets the start latch when the slot holds a RUN of origin SCHEDULE. -/
def State.setsLatch (s : State) (k : Fin 4) : Bool :=
  match s.slots.get k with
  | some r => k == sGenerator && r.origin == .schedule && r.kind == .run
  | none => false

/-- R136: the owner of a RUNNING slot is told of an END. -/
def endSlot (k : Fin 4) (w : Work) : Work :=
  if k = sGenerator then takeStop .endByHost .stopped .none w
  else if k = sCharge then stopEqualize w
  else if k = sTest then endTest w
  else endRotation .stopped .none none w

/-- R136, R110: an accepted END. -/
def endWork (k : Fin 4) (w : Work) : Work :=
  let latch := w.setsLatch k
  stopOp k .stopped .none { w with sched := { w.sched with latch := w.sched.latch || latch } } |> endSlot k

/-- R136. -/
def reqEnd (p : List Byte) (w : Work) : Work × Answer :=
  if p.length ≠ 1 then refused .badLength w
  else match indexOf0 4 (byteAt p 0) with
    | none => refused .badSubject w
    | some k =>
      if !w.occupied k then refused .state w 1
      else if !w.slotRunning k then refused .state w 2
      else carriedOut (endWork k w) fun s => .operation (s.operationReply k)

/-! ## Settings, store and link (R169, R173 to R175) -/

/-- R174. -/
def reqReadSetting (p : List Byte) (w : Work) : Work × Answer :=
  if p.length ≠ 2 then refused .badLength w
  else
    let id := wordAt p 0
    match settingRow id with
    | none => refused .badSubject w
    | some r => accepted (.setting ⟨id, w.setting id, r.low, r.high, r.default, w.storedValue id⟩) w

/-- R173. -/
def reqWriteSetting (p : List Byte) (w : Work) : Work × Answer :=
  if p.length ≠ 4 then refused .badLength w
  else
    let id := wordAt p 0
    match settingRow id with
    | none => refused .badSubject w
    | some r =>
      if w.storePending then refused .busy w
      else if id = 0x0309 then refused .notOwner w
      else
        let v := clampSetting r (wordAt p 2)
        if !relationHolds id (putSetting w.settings id v) then refused .conflict w
        else carriedOut (takeSetting id v w) fun _ => .written (v != wordAt p 2) id v

/-- R175. -/
def reqStoreSettings (p : List Byte) (w : Work) : Work × Answer :=
  if p ≠ [] then refused .badLength w
  else if w.storePending then refused .busy w
  else carriedOut (beginStore w) fun _ => .empty

/-- R169: the four flags are clear after the reply is formed; the count stays. -/
def clearLinkFlags (w : Work) : Work :=
  { w with link := { w.link with status := ⟨false, false, false, false, w.link.status.good⟩ } }

/-- R169. -/
def reqReadLink (p : List Byte) (w : Work) : Work × Answer :=
  if p ≠ [] then refused .badLength w else (clearLinkFlags w, .accept (.link w.link.status))

/-- R172: RESTART is accepted; the restart follows when its acceptance has been sent. -/
def reqRestart (p : List Byte) (w : Work) : Work × Answer :=
  if p ≠ [] then refused .badLength w
  else if w.storePending then refused .busy w
  else carriedOut { w with link := { w.link with restart := .accepting } } fun _ => .empty

/-! ## SET CLOCK, the relays and CONTACTOR (R26, R118, R128) -/

/-- R118. -/
def reqSetClock (p : List Byte) (w : Work) : Work × Answer :=
  if p.length ≠ 3 then refused .badLength w
  else if 6 < byteAt p 0 ∨ 1439 < wordAt p 1 then refused .range w
  else
    let c : Clock := ⟨byteAt p 0, wordAt p 1, 0⟩
    carriedOut { w with clock := some c } fun _ => .clock c

/-- R26: the lowest relay of 1 to 12 that a mask names, counted from 1. -/
def lowestOwned (mask : Nat) : Option Nat := ((List.range 12).find? fun k => maskNames mask k).map (· + 1)

/-- R26: a mask's AUX relays take a drive. -/
def driveAux (mask : Nat) (on : Bool) (w : Work) : Work :=
  w |> onlyIf (maskNames mask 12) (setRelay rAux1 on) |> onlyIf (maskNames mask 13) (setRelay rAux2 on)

/-- R26: RELAYS ON (`on`) and RELAYS OFF. -/
def reqRelays (on : Bool) (p : List Byte) (w : Work) : Work × Answer :=
  if p.length ≠ 2 then refused .badLength w
  else
    let mask := wordAt p 0
    if maskNames mask 14 || maskNames mask 15 then refused .badSubject w
    else match lowestOwned mask with
      | some k => refused .notOwner w k
      | none => carriedOut (driveAux mask on w) fun s => .relays s.relays

/-- R128: the claim of an action. -/
def actionOf (a : Nat) : Option (Option Drive) :=
  match a with
  | 0 => some none
  | 1 => some (some .opened)
  | 2 => some (some .closed)
  | _ => none

/-- R128. -/
def reqContactor (p : List Byte) (w : Work) : Work × Answer :=
  if p.length ≠ 2 then refused .badLength w
  else match indexOf 5 (byteAt p 0) with
    | none => refused .badSubject w
    | some t =>
      match actionOf (byteAt p 1) with
      | none => refused .range w
      | some c =>
        if w.active iHand then refused .locked w
        else carriedOut (hostClaim t c w) fun s => .contactor t (s.targets.get t) (s.active (iAux t))

/-! ## The alarm points (R151 to R153) -/

/-- R151: a mask names a bit that no point has. -/
def pointMaskBad (mask : Nat) : Bool := decide (2 ^ 41 ≤ mask)

/-- The points a mask names, in id order. -/
def namedPoints (mask : Nat) : List (Fin 41) := (indices 41).filter fun p => maskNames mask p.val

/-- R151, R148: a point is acknowledged. -/
def ackPoint (p : Fin 41) (w : Work) : Work :=
  match (w.points.get p).state with
  | .raised => w |> writeLog .alarmHeld (p.val + 1) .host none |> movePoint p .held
  | .latched => makeNormal p .host w
  | .normal => w
  | .held => w

/-- R152 step 2: the contactor arbiter's part in a CLEAR (R131). -/
def clearFault (p : Fin 41) (w : Work) : Work :=
  match (indices 4).find? fun n => p == pStringFault n with
  | some n => if (w.strings.get n).fault && w.agrees (stringTarget n) then clearMarker n w else w
  | none => w

/-- R152: a point is cleared. -/
def clearPoint (p : Fin 41) (w : Work) : Work :=
  let w : Work := { w with points := w.points.modify p fun x => { x with proof := false } }
  let w := clearFault p w
  if (w.points.get p).effective then w else makeNormal p .host w

/-- R151, R152: the points a request changed, and the points that stand RAISED or LATCHED after it. Only named points are
among those changed, not one that moves as a consequence within the request (DESIGN CHOICE, notes/assumptions/50.md). -/
def pointsChanged (before : State) (mask : Nat) (s : State) : ReplyData :=
  .points ((namedPoints mask).filter fun p => (before.points.get p).state != (s.points.get p).state)
    ((indices 41).filter fun p => (s.points.get p).state == .raised || (s.points.get p).state == .latched)

/-- R151, R152: a request over the points of a mask, each point's change handed on before the next is taken. -/
def reqPoints (act : Fin 41 → Work → Work) (p : List Byte) (w : Work) : Work × Answer :=
  if p.length ≠ 6 then refused .badLength w
  else
    let mask := maskAt p
    if pointMaskBad mask then refused .badSubject w
    else carriedOut (forEach (namedPoints mask) (fun q v => settleAll (act q v)) w) (pointsChanged w.toState mask)

/-- R151. -/
def reqAcknowledge (p : List Byte) (w : Work) : Work × Answer := reqPoints ackPoint p w

/-- R152. -/
def reqClear (p : List Byte) (w : Work) : Work × Answer := reqPoints clearPoint p w

/-- R153: a point is proved. -/
def provePoint (p : Fin 41) (w : Work) : Work :=
  if isEventPoint p then momentary p .prove 0 w
  else
    let pt := w.points.get p
    let w' : Work := { w with points := w.points.set p { pt with proof := true } }
    if pt.effective then w' else conditionRose p .prove (some 0) w'

/-- R153. The rule names no record for the acceptance: it is empty (DESIGN CHOICE, notes/assumptions/29.md). -/
def reqProve (p : List Byte) (w : Work) : Work × Answer :=
  if p.length ≠ 1 then refused .badLength w
  else match indexOf 41 (byteAt p 0) with
    | none => refused .badSubject w
    | some q => carriedOut (provePoint q w) fun _ => .empty

end Sys2Proof.Machine
end

