-- ==== Sys2Proof/Machine/Layouts.lean ====
section
/-! DEFINITION. The record layouts of R179: host frames and refusals, the replies whose layout the manual gives, and the
shelf poll and reply. A code that no rule gives follows the order of its list (DESIGN CHOICE, notes/assumptions/29.md). -/

/-- R133 names the figures of a progress block and R179 bounds its length by 60 bytes; neither gives its layout. Its bytes
are a free value (DESIGN CHOICE, notes/assumptions/29.md). -/
opaque Sys2Proof.Config.progressBytes : Sys2Proof.Machine.Progress → List Sys2Proof.Byte

namespace Sys2Proof.Machine

/-! ## Codes -/

/-- R168. -/
def RefusalReason.code : RefusalReason → Nat
  | .unknownKind => 1 | .badLength => 2 | .badSubject => 3 | .conflict => 4 | .busy => 5 | .state => 6 | .notOwner => 7
  | .locked => 8 | .range => 9

/-- R179. -/
def Origin.code : Origin → Nat
  | .part => 0 | .host => 1 | .prove => 2 | .auto => 3 | .schedule => 4 | .restart => 5

/-- R155. -/
def LogKind.code : LogKind → Nat
  | .alarmRaised => 1 | .alarmLatched => 2 | .alarmHeld => 3 | .alarmNormal => 4 | .genState => 5 | .source => 6
  | .regime => 7 | .moduleState => 8 | .contactor => 9 | .lvdStage => 10 | .opBegin => 11 | .opEnd => 12
  | .stringFull => 13 | .sync => 14 | .mode => 15 | .exerciseSkipped => 16 | .settingsStored => 17 | .restart => 18

/-- R179. -/
def TempSource.code : TempSource → Nat
  | .string => 0 | .ambient => 1 | .default => 2

/-- R179. -/
def Phase.code : Phase → Nat
  | .isolated => 0 | .charging => 1 | .resting => 2 | .discharging => 3

/-- R179: 0 OFF, 1 ON, 2 FAULT. -/
def moduleOutCode : ModuleOut → Nat
  | .off => 0 | .on => 1 | .fault => 2

/-- R133, in the order of its list; an IDLE slot holds no record and has state 0. -/
def OpState.code : OpState → Nat
  | .running => 1 | .stopping => 2 | .done => 3

/-- R133, in the order of its list from 1; 0 is absent. -/
def Reason.code : Reason → Nat
  | .lowCharge => 1 | .lowVoltage => 2 | .emergency => 3 | .cycle => 4 | .exerciseConverted => 5 | .host => 6

/-- R88, in the order of its list from 1; 0 is none. -/
def RotateOutcome.code : RotateOutcome → Nat
  | .changed => 1 | .noChange => 2 | .superseded => 3 | .absorbed => 4

/-- R144, in the order of its list from 1; 0 is absent. -/
def EndReason.code : EndReason → Nat
  | .depth => 1 | .endVoltage => 2 | .time => 3

/-- R144, in the order of its list from 1. -/
def TestPhase.code : TestPhase → Nat
  | .lowering => 1 | .discharging => 2

/-- R179: a signed field with NO DATA 0x8000. -/
def dataBytes (v : Option Int) : List Byte := signed2 (v.getD (-32768))

/-- R179: an index from 1, 0 when absent. -/
def indexByte {n : Nat} (i : Option (Fin n)) : Byte := match i with | some i => byte1 (i.val + 1) | none => 0

/-- R179: a flags byte, bit 0 the first flag named. -/
def flagsByte (flags : List Bool) : Byte := byte1 (flags.foldr (fun b n => b.toNat + 2 * n) 0)

/-! ## Host frames -/

/-- R166: the bytes under a frame's CRC: LEN and the body. -/
def frameBody (f : Frame) : List Byte := byte1 (f.payload.length + 2) :: f.kind :: f.tag :: f.payload

/-- R166, R179: a frame as it is sent. -/
def frameBytes (f : Frame) : List Byte := 0x5A#8 :: (frameBody f ++ crcBytes (crc16 (frameBody f)))

/-! ## Records -/

/-- R179: the string record, 32 bytes, or 43 with test_result. -/
def stringBytes (r : StringReply) : List Byte :=
  let s := r.string
  [byte1 (r.index.val + 1), flagsByte [r.enrolled, r.inService, s.full, s.fault, s.test.isSome]] ++
  bytes2 r.cRated ++ signed2 s.tCap ++ [byte1 s.tSource.code] ++ bytes4 s.cEff ++ bytes4 s.q ++ bytes4 s.u ++
  bytes2 s.soc ++ bytes2 s.socC ++ [byte1 s.phase.code] ++ bytes2 s.tail ++ bytes4 s.sinceFull ++ dataBytes s.lastI ++
  (match s.test with
   | some t => bytes2 t.delivered ++ dataBytes t.lastV ++ bytes2 t.minutes ++ [byte1 t.termination.code] ++ bytes4 t.doneStamp
   | none => [])

/-- R179: the last reply in a module record. -/
def lastReplyBytes (r : Option LastReply) : List Byte :=
  match r with
  | some l =>
    [byte1 (moduleOutCode l.answer.out)] ++ bytes2 l.answer.current ++ bytes2 l.answer.voltage ++
    signed2 l.answer.heatsink ++ [byte1 l.answer.code] ++ bytes4 l.stamp
  | none => List.replicate 12 0

/-- R179: the last command in a module record. -/
def lastCommandBytes (c : Option PollCommand) : List Byte :=
  match c with
  | some .query => List.replicate 5 0
  | some (.off sp) => 1 :: signed2 sp ++ bytes2 0
  | some (.on sp limit) => 2 :: signed2 sp ++ bytes2 limit
  | none => List.replicate 5 0

/-- R179: the module record. -/
def moduleBytes (r : ModuleReply) : List Byte :=
  let m := r.module
  [byte1 (r.position.val + 1), flagsByte [r.enrolled, m.lastReply.isSome], byte1 m.state.code, byte1 m.fault,
   byte1 m.miss, byte1 m.good] ++ bytes4 m.runMinutes ++ [byte1 m.onlineSeconds, byte1 r.startRemaining] ++
  lastReplyBytes m.lastReply ++ lastCommandBytes m.lastCommand

/-- R179: a test string's entry. -/
def testEntryBytes (e : TestEntry) : List Byte :=
  byte1 (e.index.val + 1) :: bytes2 e.delivered ++ dataBytes e.lastV ++ bytes2 e.minutes ++ bytes2 e.skipped

/-- R179: the result block. -/
def resultBytes (r : OpResult) : List Byte :=
  match r with
  | .generator on idle n fuel reason stop =>
    bytes2 on ++ bytes2 idle ++ [byte1 n] ++ bytes4 fuel ++
    [byte1 (match reason with | some x => x.code | none => 0), byte1 (match stop with | some x => x.code | none => 0)]
  | .equalize m => bytes2 m
  | .rotate o out tried a b =>
    [byte1 (match o with | some x => x.code | none => 0), indexByte out, byte1 tried.length] ++
    tried.map (fun p => byte1 (p.val + 1)) ++ bytes4 (a.getD 0) ++ bytes4 (b.getD 0)
  | .test reason phase m low entries =>
    [byte1 (match reason with | some x => x.code | none => 0), byte1 phase.code] ++ bytes2 m ++ dataBytes low ++
    [byte1 entries.length] ++ entries.flatMap testEntryBytes

/-- R179: the operation record before its block. -/
def operationHead (k : Fin 4) (r : OpRec) (length : Nat) : List Byte :=
  [byte1 k.val, byte1 r.state.code, byte1 r.unread.toNat, byte1 r.kind.code, byte1 r.origin.code,
   byte1 (match r.reason with | some x => x.code | none => 0), byte1 r.modeAtBegin.code] ++ bytes4 r.beginStamp ++
  bytes2 (r.args.getD 0 0) ++ bytes2 (r.args.getD 1 0) ++ bytes2 (r.args.getD 2 0) ++
  [byte1 (match r.termination with | some x => x.code | none => 0),
   byte1 (match r.cause with | some x => x.code | none => 0)] ++ bytes4 r.doneStamp ++ [byte1 length]

/-- R179: the block of an operation record: the progress while occupied, at most 60 bytes, and the result once DONE. -/
def operationBlock (x : OpRec) (progress : Option Progress) : List Byte :=
  match progress, x.result with
  | some p, _ => (Config.progressBytes p).take 60
  | none, some y => resultBytes y
  | none, none => []

/-- R179: the operation record: its 24 bytes, and the block. -/
def operationBytes (r : OperationReply) : List Byte :=
  match r.record with
  | none => byte1 r.slot.val :: List.replicate 23 0
  | some x => operationHead r.slot x (operationBlock x r.progress).length ++ operationBlock x r.progress

/-- R179: a log entry, 14 bytes. -/
def logEntryBytes (e : LogEntry) : List Byte :=
  bytes4 e.seq ++ bytes4 e.stamp ++ [byte1 e.kind.code, byte1 e.subject, byte1 e.origin.code, flagsByte [e.detail.isSome]] ++
  signed2 (e.detail.getD 0)

/-- R179: the PAYLOAD of an acceptance, where the manual gives its layout. That the operation record follows the flags byte
of a BEGIN, the values taken standing in its arguments, is DESIGN CHOICE, notes/assumptions/29.md. -/
def dataPayload (d : ReplyData) : Option (List Byte) :=
  match d with
  | .empty => some []
  | .string r => some (stringBytes r)
  | .module r => some (moduleBytes r)
  | .operation r => some (operationBytes r)
  | .begun clamped _ r => some (flagsByte [clamped] :: operationBytes r)
  | .log oldest newest gap entries =>
    some (bytes4 oldest ++ bytes4 newest ++ [flagsByte [gap], byte1 entries.length] ++ entries.flatMap logEntryBytes)
  | .written clamped id value => some (flagsByte [clamped] :: bytes2 id ++ bytes2 value)
  | _ => none

/-- R166, R179: a reply as a frame, where its layout is given: an acceptance has the request's kind plus 0x80, a refusal
KIND 0x7F with the kind refused, the reason and the detail. -/
def replyFrame (r : Reply) : Option Frame :=
  match r with
  | .accept kind tag d => (dataPayload d).map fun p => ⟨kind + 0x80#8, tag, p⟩
  | .refuse kind tag reason detail => some ⟨0x7F#8, tag, [kind, byte1 reason.code, byte1 detail]⟩

/-! ## The shelf link (R69, R179) -/

/-- R179: the bytes of a poll under its CRC: all but the first byte. -/
def pollBody (p : Fin 12) (c : PollCommand) : List Byte :=
  byte1 (p.val + 1) ::
  (match c with
   | .query => [0, 0] ++ bytes2 0 ++ bytes2 0
   | .off sp => [1, 0] ++ signed2 sp ++ bytes2 0
   | .on sp limit => [1, 1] ++ signed2 sp ++ bytes2 limit)

/-- R179: a poll as it is sent to position `p`. -/
def pollBytes (p : Fin 12) (c : PollCommand) : List Byte := 0xA5#8 :: (pollBody p c ++ crcBytes (crc16 (pollBody p c)))

/-- R179: two bytes, high byte first, as a signed field. -/
def signedAt (p : List Byte) (i : Nat) : Int := if wordAt p i < 32768 then wordAt p i else (wordAt p i : Int) - 65536

/-- R69, R179: the answer in a shelf reply to the poll of position `p`; `none` for a reply that is not recognised, has a
bad CRC, or carries another address. One whose state byte is none of 0, 1 and 2, of which the manual says nothing, is taken
as no reply (DESIGN CHOICE, notes/assumptions/53.md). -/
def shelfAnswer (p : Fin 12) (bytes : List Byte) : Option ModuleAnswer :=
  let body := (bytes.drop 1).take 9
  let out := match byteAt bytes 2 with
    | 0 => some ModuleOut.off
    | 1 => some ModuleOut.on
    | 2 => some ModuleOut.fault
    | _ => none
  if bytes.length = 12 ∧ byteAt bytes 0 = 0xA6 ∧ byteAt bytes 1 = p.val + 1 ∧ bytes.drop 10 = crcBytes (crc16 body) then
    out.map fun o => ⟨o, wordAt bytes 3, wordAt bytes 5, signedAt bytes 7, byteAt bytes 9⟩
  else none

/-- R69: what the end of the slot of a polled position is, from the bytes that came within the 40 ms: a reply or a
miss. -/
def slotEnd (p : Fin 12) (bytes : List Byte) : Instr :=
  match shelfAnswer p bytes with
  | some a => .moduleReply p a
  | none => .moduleMiss p

end Sys2Proof.Machine
end

