-- ==== Sys2Proof/Machine/Link.lean ====
section
/-! DEFINITION. The host link (12_the_host_link.md): the receiver, the one reply in flight and the one held frame, the
frame arrival, and the choice of a request's rule by its kind. -/

namespace Sys2Proof.Machine

/-! ## Requests by kind (R168) -/

/-- R168 step 2: the request of a known kind is checked and carried out by its own rule. -/
def request (kind : Byte) (p : List Byte) (w : Work) : Work × Answer :=
  match kind.toNat with
  | 0x01 => reqReadIdentity p w
  | 0x02 => reqReadPlant p w
  | 0x03 => reqReadString p w
  | 0x04 => reqReadModule p w
  | 0x05 => reqReadSources p w
  | 0x06 => reqReadChannel p w
  | 0x07 => reqReadInputs p w
  | 0x08 => reqReadAlarms p w
  | 0x09 => reqReadLog p w
  | 0x0A => reqReadOperation p w
  | 0x0B => reqReadSetting p w
  | 0x0C => reqReadLink p w
  | 0x20 => reqWriteSetting p w
  | 0x21 => reqStoreSettings p w
  | 0x22 => reqSetClock p w
  | 0x23 => reqRelays true p w
  | 0x24 => reqRelays false p w
  | 0x25 => reqBegin p w
  | 0x26 => reqEnd p w
  | 0x27 => reqAcknowledge p w
  | 0x28 => reqClear p w
  | 0x29 => reqProve p w
  | 0x2A => reqContactor p w
  | 0x2B => reqEnrol p w
  | 0x2C => reqRetire p w
  | 0x2D => reqSyncString p w
  | 0x2E => reqRestart p w
  | _ => refused .unknownKind w

/-- R166: the reply to a request. -/
def Answer.reply (a : Answer) (kind tag : Byte) : Reply :=
  match a with
  | .accept d => .accept kind tag d
  | .refuse r d => .refuse kind tag r d

/-- R168 step 1: the UNKNOWN flag is set. -/
def flagUnknown (w : Work) : Work :=
  { w with link := { w.link with status := { w.link.status with unknown := true } } }

/-- R168: a frame taken: an unknown kind is refused; a known kind first acts on the supervision timer and the mode. -/
def carryOut (f : Frame) (w : Work) : Work × Answer :=
  if kindKnown f.kind then request f.kind f.payload (settleAll (frameArrival w))
  else refused .unknownKind (flagUnknown w)

/-- R167: a frame is taken, and its reply is in flight. -/
def takeFrame (f : Frame) (w : Work) : Work :=
  let r := carryOut f w
  { r.1 with link := { r.1.link with reply := some (r.2.reply f.kind f.tag) } }

/-! ## Completion (R167) -/

/-- R167: the receiver returns to HUNT and the good-frame count rises by 1, modulo 65 536. -/
def countFrame (w : Work) : Work :=
  let status := { w.link.status with good := (w.link.status.good + 1) % 65536 }
  { w with link := { w.link with receiver := .hunt, status := status } }

/-- R167: a good frame is held. -/
def holdFrame (f : Frame) (w : Work) : Work := { w with link := { w.link with held := some f } }

/-- R167: a good frame is discarded, with OVERRUN. -/
def flagOverrun (w : Work) : Work :=
  { w with link := { w.link with status := { w.link.status with overrun := true } } }

/-- R167: a good frame is completed. R172: none is taken once an accepted RESTART has been sent. -/
def goodFrame (f : Frame) (w : Work) : Work :=
  let w := countFrame w
  match w.link.reply, w.link.held with
  | none, _ => if w.link.restart == .due then w else takeFrame f w
  | some _, none => holdFrame f w
  | some _, some _ => flagOverrun w

/-- R167: a complete frame whose CRC does not match is discarded. -/
def badFrame (w : Work) : Work :=
  let status := { w.link.status with crc := true }
  { w with link := { w.link with receiver := .hunt, status := status } }

/-- R167: a partial frame is discarded, or LEN was out of range. -/
def fragment (w : Work) : Work :=
  let status := { w.link.status with fragment := true }
  { w with link := { w.link with receiver := .hunt, status := status } }

/-- R167: the receiver's gap timer expires. It runs in LENGTH, BODY and CHECK. -/
def gapTimerExpiry (w : Work) : Work :=
  match w.link.receiver with
  | .hunt => w
  | _ => fragment w

/-- The receiver enters a state. -/
def setReceiver (r : Receiver) (w : Work) : Work := { w with link := { w.link with receiver := r } }

/-- R167: the frame of the bytes under the CRC. -/
def frameOf (got : List Byte) : Frame := ⟨got.getD 1 0, got.getD 2 0, got.drop 3⟩

/-- R167: a frame is complete: good or discarded by its CRC. -/
def completeBytes (got crc : List Byte) (w : Work) : Work :=
  if crc = crcBytes (crc16 got) then goodFrame (frameOf got) w else badFrame w

/-- R167: a byte is received. -/
def receiveByte (b : Byte) (w : Work) : Work :=
  match w.link.receiver with
  | .hunt => if b = 0x5A#8 then setReceiver .length w else w
  | .length => if 2 ≤ b.toNat ∧ b.toNat ≤ 98 then setReceiver (.body b.toNat [b]) w else fragment w
  | .body left got =>
    if left ≤ 1 then setReceiver (.check (got ++ [b]) none) w else setReceiver (.body (left - 1) (got ++ [b])) w
  | .check got none => setReceiver (.check got (some b)) w
  | .check got (some c) => completeBytes got [c, b] w

/-- R167, R172: the last byte of the reply in flight is sent: the held frame is taken; after the acceptance of a RESTART
the persistence record is written instead, and the restart is due. -/
def replyOver (w : Work) : Work :=
  match w.link.reply with
  | none => w
  | some _ =>
    let held := w.link.held
    let w : Work := { w with link := { w.link with reply := none, held := none } }
    if w.link.restart == .accepting then
      writeRecord { w with link := { w.link with restart := .due } }
    else match held with
      | some f => takeFrame f w
      | none => w

end Sys2Proof.Machine
end

