-- ==== Sys2Proof/Machine/Restart.lean ====
section
/-! DEFINITION. The two restarts (R177, R178), each block taking up the state its own chapter gives. -/

namespace Sys2Proof.Machine

/-! ## What both restarts do -/

/-- R165: the mode record at a restart. -/
def restartMode (s : State) (remaining : Nat) : ModeRec := ⟨.hold, .startup, 0, s.supervision, remaining, 0⟩

/-- R169: the link at a restart, with the straps as sampled. -/
def restartLink (straps : Straps) : Link := ⟨straps, .hunt, ⟨false, false, false, false, 0⟩, none, none, .none⟩

/-- Time begins again, every relay is de-energized (R28), the straps are sampled (R166), no store is pending (R175) and
the mode is HOLD (R165). -/
def restartClockwork (straps : Straps) (kind : RestartKind) (w : Work) : Work :=
  { w with
    powered := true
    ms := 0
    tickCount := 0
    evalCount := 0
    hourCount := 0
    lastRestart := kind
    stored := cutStore w.stored w.storePending
    storePending := false
    relays := Table.fill 14 ⟨false, 0⟩
    relaysFormed := false
    link := restartLink straps }

/-- R23: the inputs as sampled. -/
def sampleInputs (contacts : Contacts) (w : Work) : Work :=
  { w with inputs := Table.ofFn fun i => w.restartInput i (contacts.get i) }

/-- R106: whether the engine is running is judged at the restart from GEN_RUNNING alone. -/
def State.engineFound (s : State) : Bool := s.active iGenRunning

/-- R106: a new record for an engine found running: kind RUN, origin RESTART, STOPPING. The rule gives its argument no value:
the record holds none (DESIGN CHOICE, notes/assumptions/48.md). -/
def beginRestartRun (w : Work) : Work :=
  w |> beginOp sGenerator .run .restart none [] |> stopOp sGenerator .aborted .restart

/-! ## Cold restart (R177) -/

/-- R177 stages 1, 2 and 4: the state before any block takes up its own. `settings` are those loaded. -/
def coldBase (straps : Straps) (settings : Settings) (origin : SettingsOrigin) (w : Work) : Work :=
  let w := restartClockwork straps .cold w
  { w with
    settings := settings
    loaded := settings
    settingsFrom := origin
    clock := none
    log := []
    points := Table.fill 41 Point.start
    slots := Table.fill 4 none
    test := TestRec.start }

/-- R47, R89, R119, R163: the blocks' records after a cold restart, from a persistence record if it is good. -/
def coldBlocks (item : Option RecordItems) (w : Work) : Work :=
  let estimate := match item with | some r => r.estimate | none => w.setting 0x050E * 10
  let remaining := match item with | some r => min r.remaining (w.setting 0x0801) | none => w.setting 0x0801
  { w with
    meas := restartRecords w.settings
    strings := Table.ofFn fun n => coldString w.settings n (item.map fun r => r.strings.get n)
    charge := restartRegime w.settings 0 0
    shelf := restartShelf w.toState (fun p => match item with | some r => r.runMinutes.get p | none => 0)
      (match item with | some r => r.rotMinutes | none => 0)
    mains := Mains.start
    sched := restartScheduler w.toState estimate
    mode := restartMode w.toState remaining }

/-- R106: the controller after a cold restart. -/
def coldGenerator (w : Work) : Work :=
  if w.engineFound then
    beginRestartRun { w with gen := restartRundown w.toState w.sched.estimate none }
  else { w with gen := restartGenerator }

/-- R23, R90, R132, R158, R163: the conditions that the restart forms, with the arbiter's decisions. -/
def coldConditions (w : Work) : Work :=
  w |> handCondition pGridFail true 8
    |> handCondition pDoor (w.active iDoor) 0
    |> handCondition pSmoke (w.active iSmoke) 0
    |> handCondition pUser (w.active iUser) 0
    |> restartArbiter
    |> handCondition pAllowanceOut (decide (w.mode.remaining = 0)) (w.setting 0x0801)

/-- R177: SETTINGS_LOST for the stored copy and for the persistence record. -/
def settingsLost (copy record : Bool) (w : Work) : Work :=
  w |> onlyIf copy (momentary pSettingsLost .part 1) |> onlyIf record (momentary pSettingsLost .part 2)

/-- R177: a cold restart, with the contacts and straps as sampled. The order of its entries after RESTART and MODE is
DESIGN CHOICE: notes/assumptions/36.md. -/
def coldWork (contacts : Contacts) (straps : Straps) (w : Work) : Work :=
  let stored := cutStore w.stored w.storePending
  let record := w.record
  let settings := if stored.good then stored.values else []
  let origin := if stored.good then SettingsOrigin.stored else SettingsOrigin.defaults
  let item := if record.good then some record.items else none
  w |> coldBase straps settings origin
    |> sampleInputs contacts
    |> coldBlocks item
    |> writeLog .restart 0 .part none
    |> writeLog .mode 1 .part (some 2)
    |> coldGenerator
    |> coldConditions
    |> settingsLost (!stored.good) (!record.good)
    |> holdEntry

/-! ## Warm restart (R178) -/

/-- R138: an occupied operation ends ABORTED, RESTART with the result its owner gives. -/
def endAtRestart (k : Fin 4) (result : OpResult) (w : Work) : Work := finishOp k .aborted .restart result w

/-- R106, R138: the generator's record at a warm restart, from the controller record `old` before it: a run whose engine
is found running goes on as STOPPING with its figures kept. -/
def warmGeneratorSlot (old : Generator) (w : Work) : Work :=
  if w.engineFound then
    if w.occupied sGenerator then
      let kept : KeptFigures := old.kept.getD ⟨old.onload, old.idling, old.attempt⟩
      { w with gen := restartRundown w.toState old.fuelStart (some kept) } |> stopOp sGenerator .aborted .restart
    else beginRestartRun { w with gen := restartRundown w.toState w.sched.estimate none }
  else
    let stopped : Generator := { old with stop := some ⟨.restart, .aborted, .restart⟩ }
    let v : Work := { w with gen := stopped }
    { endAtRestart sGenerator v.genResult v with gen := restartGenerator }

/-- R66, R138: a running equalize at a warm restart; eq_holdoff is set by the abort. -/
def warmCharge (w : Work) : Work :=
  if w.occupied sCharge then
    endAtRestart sCharge (.equalize w.charge.eqMinutes)
      { w with charge := { w.charge with eqHoldoff := Config.eqHoldoffS } }
  else w

/-- R138, R144: a running test at a warm restart: its result and its test_results, with no regime release. -/
def warmTest (w : Work) : Work :=
  if w.occupied sTest then
    w |> writeTestResults .aborted |> endAtRestart sTest (w.test.result none)
  else w

/-- R88, R138: a rotation in flight at a warm restart. -/
def warmRotation (w : Work) : Work := endRotation .aborted .restart none w

/-- R138: the slots at a warm restart, in slot order. -/
def warmSlots (old : Generator) (w : Work) : Work :=
  w |> warmGeneratorSlot old |> warmCharge |> warmTest |> warmRotation

/-- R49, R67, R89, R119: the blocks' records after a warm restart. No entry for a change of state that they make
is written: no SOURCE, GEN_STATE, REGIME or MODULE_STATE (DESIGN CHOICE, notes/assumptions/61.md). -/
def warmBlocks (w : Work) : Work :=
  let shelf := w.shelf
  { w with
    meas := restartRecords w.settings
    strings := w.strings.map warmString
    charge := restartRegime w.settings w.charge.eqElapsed w.charge.eqHoldoff
    shelf := restartShelf w.toState (fun p => (shelf.modules.get p).runMinutes) shelf.rotMinutes
    mains := Mains.start
    sched := restartScheduler w.toState w.sched.estimate
    test := TestRec.start }

/-- R106: after a warm restart a failure point that is not NORMAL makes the controller stand in LOCKOUT where it would
stand in OFF, its retry timer running from the restart. No GEN_STATE entry is written (DESIGN CHOICE,
notes/assumptions/61.md). -/
def warmLockout (w : Work) : Work :=
  if w.gen.state == .off && !w.standingCauses.none then
    let w : Work := { w with gen := { w.gen with state := .lockout, causes := w.standingCauses, lockoutAt := 0 } }
    { w with gen := { w.gen with retry := w.retryTimer 0 } }
  else w

/-- R158: a point standing RAISED that is not escalated has its escalation timer started afresh. -/
def restartEscalation (s : State) (p : Fin 41) : Point :=
  let pt := s.points.get p
  if pt.state == .raised && !pt.escalated then { pt with timer := s.escalationTimer p, raisedAt := 0 }
  else { pt with timer := none, raisedAt := 0 }

/-- R158: point `p`'s raw condition is formed anew at a warm restart and its proof marker is cleared; a change of its
effective condition acts by R148. An acknowledged condition that is found present is raised again; that this is no
activation, its effective condition not having changed, is DESIGN CHOICE, notes/assumptions/54.md. -/
def reformPoint (p : Fin 41) (raw : Bool) (detail : Int) (w : Work) : Work :=
  let pt := w.points.get p
  let w' : Work := { w with points := w.points.set p { pt with raw := raw, proof := false } }
  if pt.effective == raw then
    onlyIf (raw && pt.state == .held)
      (fun v => v |> writeLog .alarmRaised (p.val + 1) .part (some detail) |> movePoint p .raised) w'
  else if raw then conditionRose p .part (some detail) w'
  else conditionFell p (some detail) w'

/-- R158: the condition formed anew at a warm restart moves the point. -/
def Point.moves (pt : Point) (raw : Bool) : Bool := pt.effective != raw || (raw && pt.state == .held)

/-- R158: a condition for whose change at the restart the manual gives no detail (DESIGN CHOICE, notes/assumptions/15.md). -/
def reformFree (p : Fin 41) (raw : Bool) (w : Work) : Work :=
  if (w.points.get p).moves raw then
    { reformPoint p raw (Config.freeDetail w.fresh).toInt w with fresh := w.fresh + 1 }
  else reformPoint p raw 0 w

/-- R74: the one enrolled position that stood in a module state, counted from 1; none if no position or more than one
stood in it. -/
def State.soleModule (s : State) (st : ModuleState) : Option Nat :=
  match (indices 12).filter fun p => s.moduleEnrolled p && s.moduleState p == st with
  | [p] => some (p.val + 1)
  | _ => none

/-- R6: the lowest channel that was FAULTY; none if there was none. -/
def State.lowestFaulty (s : State) : Option Nat :=
  ((indices 20).find? fun c => (s.meas.channels.get c).status == .faulty).map (·.val)

/-- R158: a condition ends at the restart with the one detail its rule gives, or with a free one where the rule gives
none: several modules stood in the state together (R74), or the condition stood by a proof only (R153); DESIGN CHOICE,
notes/assumptions/16.md. -/
def endPoint (p : Fin 41) (detail : Option Nat) (w : Work) : Work :=
  match detail with
  | some n => reformPoint p false n w
  | none => reformFree p false w

/-- R158: every owner re-forms its raw condition at a warm restart, in point order; `old` is the state before it. The
details are DESIGN CHOICE: notes/assumptions/16.md. -/
def warmConditions (old : State) (w : Work) : Work :=
  let noData : Int := -32768
  w |> reformPoint pBusHigh false noData
    |> reformPoint pBusLow false noData
    |> reformPoint pLvdWarn false noData
    |> reformPoint pNeldOpen false noData
    |> reformPoint pLvdOpen false noData
    |> forEach (indices 4) (fun n v => reformFree (pStringFault n) (v.strings.get n).fault v)
    |> forEach (indices 4) (fun n v => reformPoint (pStringHot n) false noData v)
    |> forEach (indices 4) (fun n v => reformFree (pStringThermal n) false v)
    |> reformPoint pLowCharge false ((w.minSocC.getD 0 : Nat) : Int)
    |> endPoint pRectFail (old.soleModule .fault)
    |> endPoint pRectComms (old.soleModule .lost)
    |> reformPoint pRedundancyLost false 0
    |> reformPoint pGridFail true 8
    |> reformPoint pFuelReserve false (w.sched.estimate / 10 : Nat)
    |> reformPoint pFuelSender false 19
    |> reformPoint pFullOverdue false 0
    |> reformPoint pTempCompLost false 0
    |> reformPoint pDoor (w.active iDoor) 0
    |> reformPoint pSmoke (w.active iSmoke) 0
    |> reformPoint pUser (w.active iUser) 0
    |> reformPoint pHostSilent false 0
    |> reformPoint pAllowanceOut (decide (w.mode.remaining = 0)) (w.setting 0x0801)
    |> endPoint pSensorFault old.lowestFaulty
    |> reformPoint pHand (w.active iHand) 0

/-- R178: a warm restart, with the contacts and straps as sampled. The order of its entries after RESTART and MODE is
DESIGN CHOICE: notes/assumptions/36.md. -/
def warmWork (contacts : Contacts) (straps : Straps) (w : Work) : Work :=
  let old := w.toState
  let w := if w.link.restart == .accepting then writeRecord w else w
  let w := restartClockwork straps .warm w
  let w := sampleInputs contacts w
  { w with mode := restartMode w.toState w.mode.remaining }
  |> writeLog .restart 1 .part none
  |> writeLog .mode 1 .part (some 2)
  |> warmSlots old.gen
  |> warmBlocks
  |> fun v => { v with points := Table.ofFn (restartEscalation v.toState) }
  |> warmConditions old
  |> restartArbiter
  |> warmLockout
  |> holdEntry

end Sys2Proof.Machine
end

