-- ==== Sys2Proof/Machine/Cycles.lean ====
section
/-! DEFINITION. The part's own cycles: a scan completion over all the blocks that take it (R3), a second of the part's
own timer, and how one command runs. -/

namespace Sys2Proof.Machine

/-- Runs a command: its effect and all its consequences. A part without power takes nothing (DEDUCED, notes/assumptions/7.md). -/
def run (f : Work → Work) (s : State) : Host.Outcome State Fault Refusal :=
  if s.powered then .next (settleAll (f ⟨s, []⟩)).toState else .next s

/-- Runs a restart, which a part without power takes too. -/
def runAlways (f : Work → Work) (s : State) : Host.Outcome State Fault Refusal :=
  .next (settleAll (f ⟨s, []⟩)).toState

/-! ## A scan completion -/

/-- R3: what a block does at a scan completion; `before` is the state before it. -/
def scanBlock (before : State) (b : ScanBlock) (w : Work) : Work :=
  match b with
  | .points => handWatchPoints w
  | .lvd => lvdWork before.meas w
  | .grid => gridWork before.meas w
  | .engine => raise .engine w
  | .strings => accountingWork w
  | .regime => regimeWork before.charge.setpoint w
  | .thermal => thermalWork w
  | .test => testWork w

/-- R154: the severity relays are first formed at the first scan completion after a restart. -/
def firstRelays (w : Work) : Work :=
  if w.relaysFormed then w else formSeverityRelays { w with relaysFormed := true }

/-- R3: a scan completion, its blocks in the order given. -/
def scanWork (raw : Table Int 20) (order : List ScanBlock) (w : Work) : Work :=
  w |> scannerWork raw
    |> settleAll
    |> forEach order (fun b v => settleAll (scanBlock w.toState b v))
    |> firstRelays

/-! ## A second of the part's own timer -/

/-- R65: the minutes of a running equalize, counted in seconds since its begin. -/
def equalizeTick (w : Work) : Work :=
  if w.charge.regime != .equalize then w
  else if w.charge.eqSeconds + 1 < 60 then
    { w with charge := { w.charge with eqSeconds := w.charge.eqSeconds + 1 } }
  else { w with charge := { w.charge with eqSeconds := 0, eqMinutes := w.charge.eqMinutes + 1 } }

/-- What a block does at a second of the part's own timer. -/
def tickBlock (b : TickBlock) (w : Work) : Work :=
  match b with
  | .shelf => shelfTick w
  | .engine => engineTick w
  | .fuel => fuelTick w
  | .allowance => allowanceTick w
  | .equalize => equalizeTick w
  | .clock => clockTick w

/-- R75, R98, R99, R115, R118, R163: a second, its blocks in the order given. -/
def secondWork (order : List TickBlock) (w : Work) : Work :=
  let w : Work := { w with tickCount := w.tickCount + 1 }
  w |> reachMs (w.tickCount * 1000) |> forEach order (fun b v => settleAll (tickBlock b v))

/-! ## Timers -/

/-- The expiry of the controller's state timer in a state; in another state it does not come. -/
def genExpiry (st : GenState) (f : Work → Work) (w : Work) : Work :=
  if w.gen.state == st then atExpiry w.gen.timer f w else w

/-- R150: the escalation timer of point `p` expires. -/
def escalate (p : Fin 41) (w : Work) : Work :=
  { w with points := w.points.modify p fun x => { x with escalated := true, timer := none } } |> formSeverityRelays

end Sys2Proof.Machine
end

