-- ==== Sys2Proof/Machine/LinkCommands.lean ====
section
/-! DEFINITION. The commands of the host link (R167, R168). -/

namespace Sys2Proof.Machine

/-- R168: a good frame of a kind outside the catalogue is completed. -/
def execUnknownKind (kind tag : Byte) (payload : List Byte) (s : State) : Host.Outcome State Fault Refusal :=
  run (goodFrame ⟨kind, tag, payload⟩) s

/-- R167: a complete frame whose CRC does not match. -/
def execBadCrcFrame (s : State) : Host.Outcome State Fault Refusal :=
  run badFrame s

/-- R167: a good frame is completed while a reply is in flight and none is held. -/
def execFrameHeld (kind tag : Byte) (payload : List Byte) (s : State) : Host.Outcome State Fault Refusal :=
  run (goodFrame ⟨kind, tag, payload⟩) s

/-- R167: a good frame is completed while a reply is in flight and one is held. -/
def execOverrun (kind tag : Byte) (payload : List Byte) (s : State) : Host.Outcome State Fault Refusal :=
  run (goodFrame ⟨kind, tag, payload⟩) s

/-- R167: the receiver's gap timer expires. -/
def execReceiverGapTimerExpiry (s : State) : Host.Outcome State Fault Refusal :=
  run gapTimerExpiry s

/-- R167: a byte is received. -/
def execByteReceived (b : Byte) (s : State) : Host.Outcome State Fault Refusal :=
  run (receiveByte b) s

/-- R167: the last byte of the reply in flight is sent. -/
def execReplySent (s : State) : Host.Outcome State Fault Refusal :=
  run replyOver s

end Sys2Proof.Machine
end

