-- ==== Sys2Proof/Machine/PlantCommands.lean ====
section
/-! DEFINITION. The commands of the plant and of the part's own cycles: scans, polls, modules, ticks and contacts. -/

namespace Sys2Proof.Machine

/-- R3: a scan completion. -/
def execScanCompletion (raw : Table Int 20) (order : List ScanBlock) (s : State) : Host.Outcome State Fault Refusal :=
  run (scanWork raw order) s

/-- R68: a poll cycle completion. -/
def execPollCycleCompletion (s : State) : Host.Outcome State Fault Refusal :=
  run pollCycleWork s

/-- R73: a good reply from a polled position. -/
def execModuleReply (position : Fin 12) (answer : ModuleAnswer) (s : State) : Host.Outcome State Fault Refusal :=
  run (takeReply position answer) s

/-- R73: a miss at a polled position. -/
def execModuleMiss (position : Fin 12) (s : State) : Host.Outcome State Fault Refusal :=
  run (takeMiss position) s

/-- R107: the evaluation paced at 10 s. -/
def execSchedulerEvaluation (s : State) : Host.Outcome State Fault Refusal :=
  run pacedEvaluation s

/-- R75: the part's one-second timer. -/
def execSecondTick (order : List TickBlock) (s : State) : Host.Outcome State Fault Refusal :=
  run (secondWork order) s

/-- R176: the hourly write. -/
def execHourlyPersistenceWrite (s : State) : Host.Outcome State Fault Refusal :=
  run hourlyWrite s

/-- R19: a debounced contact takes a new level. -/
def execInputChange (input : Fin 16) (closed : Bool) (s : State) : Host.Outcome State Fault Refusal :=
  run (takeContact input closed) s

/-- R19: a contact is sampled. -/
def execContactSample (input : Fin 16) (closed : Bool) (s : State) : Host.Outcome State Fault Refusal :=
  run (sampleContact input closed) s

end Sys2Proof.Machine
end

