-- ==== Sys2Proof/Machine/ReadRequests.lean ====
section
/-! DEFINITION. The host's reading requests as commands: each is the completion of a good frame of its kind (DEDUCED, notes/assumptions/4.md). -/

namespace Sys2Proof.Machine

/-- READ IDENTITY (R170): its good frame is completed (R167). -/
def execReadIdentity (tag : Byte) (payload : List Byte) (s : State) : Host.Outcome State Fault Refusal :=
  run (goodFrame ⟨0x01#8, tag, payload⟩) s

/-- READ PLANT (R171): its good frame is completed (R167). -/
def execReadPlant (tag : Byte) (payload : List Byte) (s : State) : Host.Outcome State Fault Refusal :=
  run (goodFrame ⟨0x02#8, tag, payload⟩) s

/-- READ STRING (R45): its good frame is completed (R167). -/
def execReadString (tag : Byte) (payload : List Byte) (s : State) : Host.Outcome State Fault Refusal :=
  run (goodFrame ⟨0x03#8, tag, payload⟩) s

/-- READ MODULE (R78): its good frame is completed (R167). -/
def execReadModule (tag : Byte) (payload : List Byte) (s : State) : Host.Outcome State Fault Refusal :=
  run (goodFrame ⟨0x04#8, tag, payload⟩) s

/-- READ SOURCES (R170): its good frame is completed (R167). -/
def execReadSources (tag : Byte) (payload : List Byte) (s : State) : Host.Outcome State Fault Refusal :=
  run (goodFrame ⟨0x05#8, tag, payload⟩) s

/-- READ CHANNEL (R15): its good frame is completed (R167). -/
def execReadChannel (tag : Byte) (payload : List Byte) (s : State) : Host.Outcome State Fault Refusal :=
  run (goodFrame ⟨0x06#8, tag, payload⟩) s

/-- READ INPUTS (R22): its good frame is completed (R167). -/
def execReadInputs (tag : Byte) (payload : List Byte) (s : State) : Host.Outcome State Fault Refusal :=
  run (goodFrame ⟨0x07#8, tag, payload⟩) s

/-- READ ALARMS (R157): its good frame is completed (R167). -/
def execReadAlarms (tag : Byte) (payload : List Byte) (s : State) : Host.Outcome State Fault Refusal :=
  run (goodFrame ⟨0x08#8, tag, payload⟩) s

/-- READ LOG (R156): its good frame is completed (R167). -/
def execReadLog (tag : Byte) (payload : List Byte) (s : State) : Host.Outcome State Fault Refusal :=
  run (goodFrame ⟨0x09#8, tag, payload⟩) s

/-- READ OPERATION (R137): its good frame is completed (R167). -/
def execReadOperation (tag : Byte) (payload : List Byte) (s : State) : Host.Outcome State Fault Refusal :=
  run (goodFrame ⟨0x0A#8, tag, payload⟩) s

/-- READ SETTING (R174): its good frame is completed (R167). -/
def execReadSetting (tag : Byte) (payload : List Byte) (s : State) : Host.Outcome State Fault Refusal :=
  run (goodFrame ⟨0x0B#8, tag, payload⟩) s

/-- READ LINK (R169): its good frame is completed (R167). -/
def execReadLink (tag : Byte) (payload : List Byte) (s : State) : Host.Outcome State Fault Refusal :=
  run (goodFrame ⟨0x0C#8, tag, payload⟩) s

end Sys2Proof.Machine
end

