-- ==== Sys2Proof/Machine/RestartCommands.lean ====
section
/-! DEFINITION. The commands of the store, of power and of the restarts. -/

namespace Sys2Proof.Machine

/-- R175: the store ends. -/
def execStoreCompletion (s : State) : Host.Outcome State Fault Refusal :=
  run endStore s

/-- R177: power-up or the reset pin. -/
def execColdRestart (contacts : Contacts) (straps : Straps) (s : State) : Host.Outcome State Fault Refusal :=
  runAlways (coldWork contacts straps) s

/-- R178: the restart made by an accepted RESTART. -/
def execWarmRestart (contacts : Contacts) (straps : Straps) (s : State) : Host.Outcome State Fault Refusal :=
  run (warmWork contacts straps) s

/-- R175, R176: the part loses power. -/
def execPowerLoss (duringWrite : Bool) (s : State) : Host.Outcome State Fault Refusal :=
  run (losePower duringWrite) s

end Sys2Proof.Machine
end

