-- ==== Sys2Proof/Machine/TimerCommands.lean ====
section
/-! DEFINITION. The expiries of the state timers. A stopped timer does not expire (DESIGN CHOICE, notes/assumptions/1.md). -/

namespace Sys2Proof.Machine

/-- R74: a module's start timer expires. -/
def execStartTimerExpiry (position : Fin 12) (s : State) : Host.Outcome State Fault Refusal :=
  run (fun w => atExpiry (w.shelf.modules.get position).startTimer (startExpiry position) w) s

/-- R84: the ramp's step timer expires. -/
def execRampStep (s : State) : Host.Outcome State Fault Refusal :=
  run (fun w => match w.shelf.ramp.timer with | some t => rampStepTaken t.due (reachMs t.due w) | none => w) s

/-- R129: a target's feedback timer expires. -/
def execFeedbackCheckTimerExpiry (target : Fin 5) (s : State) : Host.Outcome State Fault Refusal :=
  run (fun w => atExpiry (w.targets.get target).timer (feedbackExpiry target) w) s

/-- R95: the prestart timer expires. -/
def execPrestartTimerExpiry (s : State) : Host.Outcome State Fault Refusal :=
  run (genExpiry .prestart prestartExpiry) s

/-- R96: the crank timer expires. -/
def execCrankTimerExpiry (s : State) : Host.Outcome State Fault Refusal :=
  run (genExpiry .crank crankExpiry) s

/-- R96: the rest timer expires. -/
def execRestTimerExpiry (s : State) : Host.Outcome State Fault Refusal :=
  run (genExpiry .rest restExpiry) s

/-- R97: the warm-up timer expires. -/
def execWarmupTimerExpiry (s : State) : Host.Outcome State Fault Refusal :=
  run (genExpiry .warmup warmupExpiry) s

/-- R97: the check window expires. -/
def execCheckWindowExpiry (s : State) : Host.Outcome State Fault Refusal :=
  run (fun w => atExpiry w.gen.window windowExpiry w) s

/-- R91: the changeover gap timer expires. -/
def execChangeoverGapTimerExpiry (s : State) : Host.Outcome State Fault Refusal :=
  run (fun w => atExpiry w.mains.gapTimer gapExpiry w) s

/-- R99: the exercise timer expires. -/
def execExerciseTimerExpiry (s : State) : Host.Outcome State Fault Refusal :=
  run (fun w => atExpiry w.gen.exercise exerciseExpiry w) s

/-- R102: the cool-down timer expires. -/
def execCooldownTimerExpiry (s : State) : Host.Outcome State Fault Refusal :=
  run (genExpiry .cooldown cooldownExpiry) s

/-- R102: the rundown timer expires. -/
def execRundownTimerExpiry (s : State) : Host.Outcome State Fault Refusal :=
  run (genExpiry .rundown rundownExpiry) s

/-- R104: the retry timer expires. -/
def execRetryTimerExpiry (s : State) : Host.Outcome State Fault Refusal :=
  run (fun w => atExpiry w.gen.retry retryExpiry w) s

/-- R55: the absorb timer expires. -/
def execAbsorbTimerExpiry (s : State) : Host.Outcome State Fault Refusal :=
  run (fun w => atExpiry w.charge.absorb absorbExpiry w) s

/-- R65: the equalize timer expires. -/
def execEqualizeTimerExpiry (s : State) : Host.Outcome State Fault Refusal :=
  run (fun w => atExpiry w.charge.eqTimer completeEqualize w) s

/-- R150: a point's escalation timer expires. -/
def execEscalationTimerExpiry (point : Fin 41) (s : State) : Host.Outcome State Fault Refusal :=
  run (fun w => atExpiry (w.points.get point).timer (escalate point) w) s

/-- R160: the supervision timer expires. -/
def execSupervisionTimerExpiry (s : State) : Host.Outcome State Fault Refusal :=
  run (fun w => atExpiry w.mode.timer supervisionExpiry w) s

/-- R140: the test's step timer expires. -/
def execTestStepTimerExpiry (s : State) : Host.Outcome State Fault Refusal :=
  run (fun w => match w.test.stepTimer with | some t => testStepTaken t.due (reachMs t.due w) | none => w) s

/-- R141, R143: the test's minute timer expires. -/
def execTestMinuteTimerExpiry (s : State) : Host.Outcome State Fault Refusal :=
  run (fun w => match w.test.minuteTimer with | some t => testMinuteOver t.due (reachMs t.due w) | none => w) s

/-- R141: the test's time limit expires. -/
def execTestTimeLimitExpiry (s : State) : Host.Outcome State Fault Refusal :=
  run (fun w => atExpiry w.test.limitTimer testLimitOver w) s

end Sys2Proof.Machine
end

