-- ==== Sys2Proof/Machine/WriteRequests.lean ====
section
/-! DEFINITION. The host's changing requests as commands: each is the completion of a good frame of its kind (DEDUCED, notes/assumptions/4.md). -/

namespace Sys2Proof.Machine

/-- WRITE SETTING (R173): its good frame is completed (R167). -/
def execWriteSetting (tag : Byte) (payload : List Byte) (s : State) : Host.Outcome State Fault Refusal :=
  run (goodFrame ⟨0x20#8, tag, payload⟩) s

/-- STORE SETTINGS (R175): its good frame is completed (R167). -/
def execStoreSettings (tag : Byte) (payload : List Byte) (s : State) : Host.Outcome State Fault Refusal :=
  run (goodFrame ⟨0x21#8, tag, payload⟩) s

/-- SET CLOCK (R118): its good frame is completed (R167). -/
def execSetClock (tag : Byte) (payload : List Byte) (s : State) : Host.Outcome State Fault Refusal :=
  run (goodFrame ⟨0x22#8, tag, payload⟩) s

/-- RELAYS ON (R26): its good frame is completed (R167). -/
def execRelaysOn (tag : Byte) (payload : List Byte) (s : State) : Host.Outcome State Fault Refusal :=
  run (goodFrame ⟨0x23#8, tag, payload⟩) s

/-- RELAYS OFF (R26): its good frame is completed (R167). -/
def execRelaysOff (tag : Byte) (payload : List Byte) (s : State) : Host.Outcome State Fault Refusal :=
  run (goodFrame ⟨0x24#8, tag, payload⟩) s

/-- BEGIN (R135): its good frame is completed (R167). -/
def execBeginRequest (tag : Byte) (payload : List Byte) (s : State) : Host.Outcome State Fault Refusal :=
  run (goodFrame ⟨0x25#8, tag, payload⟩) s

/-- END (R136): its good frame is completed (R167). -/
def execEndRequest (tag : Byte) (payload : List Byte) (s : State) : Host.Outcome State Fault Refusal :=
  run (goodFrame ⟨0x26#8, tag, payload⟩) s

/-- ACKNOWLEDGE (R151): its good frame is completed (R167). -/
def execAcknowledge (tag : Byte) (payload : List Byte) (s : State) : Host.Outcome State Fault Refusal :=
  run (goodFrame ⟨0x27#8, tag, payload⟩) s

/-- CLEAR (R152): its good frame is completed (R167). -/
def execClearPoints (tag : Byte) (payload : List Byte) (s : State) : Host.Outcome State Fault Refusal :=
  run (goodFrame ⟨0x28#8, tag, payload⟩) s

/-- PROVE (R153): its good frame is completed (R167). -/
def execProve (tag : Byte) (payload : List Byte) (s : State) : Host.Outcome State Fault Refusal :=
  run (goodFrame ⟨0x29#8, tag, payload⟩) s

/-- CONTACTOR (R128): its good frame is completed (R167). -/
def execContactor (tag : Byte) (payload : List Byte) (s : State) : Host.Outcome State Fault Refusal :=
  run (goodFrame ⟨0x2A#8, tag, payload⟩) s

/-- ENROL (R76): its good frame is completed (R167). -/
def execEnrol (tag : Byte) (payload : List Byte) (s : State) : Host.Outcome State Fault Refusal :=
  run (goodFrame ⟨0x2B#8, tag, payload⟩) s

/-- RETIRE (R77): its good frame is completed (R167). -/
def execRetire (tag : Byte) (payload : List Byte) (s : State) : Host.Outcome State Fault Refusal :=
  run (goodFrame ⟨0x2C#8, tag, payload⟩) s

/-- SYNC STRING (R44): its good frame is completed (R167). -/
def execSyncString (tag : Byte) (payload : List Byte) (s : State) : Host.Outcome State Fault Refusal :=
  run (goodFrame ⟨0x2D#8, tag, payload⟩) s

/-- RESTART (R172): its good frame is completed (R167). -/
def execRestartRequest (tag : Byte) (payload : List Byte) (s : State) : Host.Outcome State Fault Refusal :=
  run (goodFrame ⟨0x2E#8, tag, payload⟩) s

end Sys2Proof.Machine
end

