-- ==== Sys2Proof/Machine/Dispatch.lean ====
section
/-! DEFINITION. Which meaning each command has. -/

namespace Sys2Proof.Machine

def exec (i : Instr) (s : State) : Host.Outcome State Fault Refusal :=
  match i with
  | .readIdentity tag payload => Sys2Proof.Machine.execReadIdentity tag payload s
  | .readPlant tag payload => Sys2Proof.Machine.execReadPlant tag payload s
  | .readString tag payload => Sys2Proof.Machine.execReadString tag payload s
  | .readModule tag payload => Sys2Proof.Machine.execReadModule tag payload s
  | .readSources tag payload => Sys2Proof.Machine.execReadSources tag payload s
  | .readChannel tag payload => Sys2Proof.Machine.execReadChannel tag payload s
  | .readInputs tag payload => Sys2Proof.Machine.execReadInputs tag payload s
  | .readAlarms tag payload => Sys2Proof.Machine.execReadAlarms tag payload s
  | .readLog tag payload => Sys2Proof.Machine.execReadLog tag payload s
  | .readOperation tag payload => Sys2Proof.Machine.execReadOperation tag payload s
  | .readSetting tag payload => Sys2Proof.Machine.execReadSetting tag payload s
  | .readLink tag payload => Sys2Proof.Machine.execReadLink tag payload s
  | .writeSetting tag payload => Sys2Proof.Machine.execWriteSetting tag payload s
  | .storeSettings tag payload => Sys2Proof.Machine.execStoreSettings tag payload s
  | .setClock tag payload => Sys2Proof.Machine.execSetClock tag payload s
  | .relaysOn tag payload => Sys2Proof.Machine.execRelaysOn tag payload s
  | .relaysOff tag payload => Sys2Proof.Machine.execRelaysOff tag payload s
  | .beginRequest tag payload => Sys2Proof.Machine.execBeginRequest tag payload s
  | .endRequest tag payload => Sys2Proof.Machine.execEndRequest tag payload s
  | .acknowledge tag payload => Sys2Proof.Machine.execAcknowledge tag payload s
  | .clearPoints tag payload => Sys2Proof.Machine.execClearPoints tag payload s
  | .prove tag payload => Sys2Proof.Machine.execProve tag payload s
  | .contactor tag payload => Sys2Proof.Machine.execContactor tag payload s
  | .enrol tag payload => Sys2Proof.Machine.execEnrol tag payload s
  | .retire tag payload => Sys2Proof.Machine.execRetire tag payload s
  | .syncString tag payload => Sys2Proof.Machine.execSyncString tag payload s
  | .restartRequest tag payload => Sys2Proof.Machine.execRestartRequest tag payload s
  | .unknownKind kind tag payload => Sys2Proof.Machine.execUnknownKind kind tag payload s
  | .badCrcFrame => Sys2Proof.Machine.execBadCrcFrame s
  | .frameHeld kind tag payload => Sys2Proof.Machine.execFrameHeld kind tag payload s
  | .overrun kind tag payload => Sys2Proof.Machine.execOverrun kind tag payload s
  | .receiverGapTimerExpiry => Sys2Proof.Machine.execReceiverGapTimerExpiry s
  | .scanCompletion raw order => Sys2Proof.Machine.execScanCompletion raw order s
  | .pollCycleCompletion => Sys2Proof.Machine.execPollCycleCompletion s
  | .moduleReply position answer => Sys2Proof.Machine.execModuleReply position answer s
  | .moduleMiss position => Sys2Proof.Machine.execModuleMiss position s
  | .startTimerExpiry position => Sys2Proof.Machine.execStartTimerExpiry position s
  | .rampStep => Sys2Proof.Machine.execRampStep s
  | .schedulerEvaluation => Sys2Proof.Machine.execSchedulerEvaluation s
  | .secondTick order => Sys2Proof.Machine.execSecondTick order s
  | .hourlyPersistenceWrite => Sys2Proof.Machine.execHourlyPersistenceWrite s
  | .inputChange input closed => Sys2Proof.Machine.execInputChange input closed s
  | .feedbackCheckTimerExpiry target => Sys2Proof.Machine.execFeedbackCheckTimerExpiry target s
  | .prestartTimerExpiry => Sys2Proof.Machine.execPrestartTimerExpiry s
  | .crankTimerExpiry => Sys2Proof.Machine.execCrankTimerExpiry s
  | .restTimerExpiry => Sys2Proof.Machine.execRestTimerExpiry s
  | .warmupTimerExpiry => Sys2Proof.Machine.execWarmupTimerExpiry s
  | .checkWindowExpiry => Sys2Proof.Machine.execCheckWindowExpiry s
  | .changeoverGapTimerExpiry => Sys2Proof.Machine.execChangeoverGapTimerExpiry s
  | .exerciseTimerExpiry => Sys2Proof.Machine.execExerciseTimerExpiry s
  | .cooldownTimerExpiry => Sys2Proof.Machine.execCooldownTimerExpiry s
  | .rundownTimerExpiry => Sys2Proof.Machine.execRundownTimerExpiry s
  | .retryTimerExpiry => Sys2Proof.Machine.execRetryTimerExpiry s
  | .absorbTimerExpiry => Sys2Proof.Machine.execAbsorbTimerExpiry s
  | .equalizeTimerExpiry => Sys2Proof.Machine.execEqualizeTimerExpiry s
  | .escalationTimerExpiry point => Sys2Proof.Machine.execEscalationTimerExpiry point s
  | .supervisionTimerExpiry => Sys2Proof.Machine.execSupervisionTimerExpiry s
  | .testStepTimerExpiry => Sys2Proof.Machine.execTestStepTimerExpiry s
  | .testMinuteTimerExpiry => Sys2Proof.Machine.execTestMinuteTimerExpiry s
  | .testTimeLimitExpiry => Sys2Proof.Machine.execTestTimeLimitExpiry s
  | .storeCompletion => Sys2Proof.Machine.execStoreCompletion s
  | .coldRestart contacts straps => Sys2Proof.Machine.execColdRestart contacts straps s
  | .warmRestart contacts straps => Sys2Proof.Machine.execWarmRestart contacts straps s
  | .byteReceived b => Sys2Proof.Machine.execByteReceived b s
  | .replySent => Sys2Proof.Machine.execReplySent s
  | .contactSample input closed => Sys2Proof.Machine.execContactSample input closed s
  | .powerLoss duringWrite => Sys2Proof.Machine.execPowerLoss duringWrite s

end Sys2Proof.Machine
end

