-- ==== Sys2Proof/Safety.lean ====
section
/-! DEFINITION. What a safe state of the part is, in the terms the claims use: the log, the stored forms, the relays, the
claims, the alarm points, the setpoint and the charge figures. -/

namespace Sys2Proof.Machine

/-! ## The log -/

/-- R155: sequences that rise by exactly one from the oldest to the newest. -/
def logOrdered : List LogEntry → Bool
  | [] => true
  | e :: rest =>
    (match rest with | [] => true | e' :: _ => decide (e'.seq = e.seq + 1)) && logOrdered rest

/-- R155: the log's form: at most 512 entries, in sequence. -/
def State.logOk (s : State) : Bool := logOrdered s.log && decide (s.log.length ≤ Config.logSize)

/-! ## The relays and what drives them -/

/-- R120, R24: each target has the decision of its claims, and its relay is energized exactly when that is OPEN. -/
abbrev State.contactorsOk (s : State) : Prop :=
  s.powered = true → ∀ t : Fin 5,
    (s.targets.get t).decision = ((s.targets.get t).decider, (s.targets.get t).drive) ∧
    s.relayOn (rTarget t) = ((s.targets.get t).drive == .opened)

/-- R93: FUEL_RUN and CRANK stand as the controller state has them. -/
abbrev State.engineRelaysOk (s : State) : Prop :=
  s.powered = true → s.relayOn rFuelRun = s.gen.state.fuelOn ∧ s.relayOn rCrank = (s.gen.state == .crank)

/-- R91: MAINS_BREAK and GEN_MAKE stand as the changeover state has them. -/
abbrev State.feedRelaysOk (s : State) : Prop :=
  s.powered = true →
    s.relayOn rMainsBreak = s.mains.changeover.mainsBroken ∧ s.relayOn rGenMake = s.mains.changeover.genMade

/-- R154: once formed, the three severity relays are de-energized exactly while an unmasked point of their effective
severity stands. -/
abbrev State.severityRelaysOk (s : State) : Prop :=
  s.powered = true → s.relaysFormed = true →
    s.relayOn rAlmCrit = !s.severityStands .critical ∧ s.relayOn rAlmMaj = !s.severityStands .major ∧
    s.relayOn rAlmMin = !s.severityStands .minor

/-! ## The points, the setpoint and the strings -/

/-- R149: a masked point stands NORMAL. -/
abbrev State.maskedOk (s : State) : Prop := ∀ p : Fin 41, s.masked p = true → (s.points.get p).state = .normal

/-- R59: the regime's setpoint lies between sp_min and sp_max. -/
abbrev State.setpointOk (s : State) : Prop :=
  s.setting 0x0205 ≤ s.setting 0x0206 →
    (s.setting 0x0205 : Int) ≤ s.charge.setpoint ∧ s.charge.setpoint ≤ (s.setting 0x0206 : Int)

/-- R29, R36, R37: Q and U lie within C_eff, SOC within 1000, and SOC_c is not above SOC. -/
abbrev StringRec.figuresOk (r : StringRec) : Prop :=
  r.q ≤ r.cEff ∧ r.u ≤ r.cEff ∧ r.soc ≤ 1000 ∧ r.socC ≤ r.soc

/-- R29, R36, R37: every string's figures. -/
abbrev State.stringsOk (s : State) : Prop := ∀ n : Fin 4, (s.strings.get n).figuresOk

/-! ## The settings -/

/-- R168: a value lies in the range of setting `id`; in the upper part or 0 where the range is split. -/
def valueFits (id v : Nat) : Bool :=
  match settingRow id with
  | some r => decide (r.low ≤ v ∧ v ≤ r.high) && (decide (v = 0) || decide (r.gap ≤ v))
  | none => true

/-- R173: the values of all settings lie in their ranges, keep their relations, and are held in the one form. -/
def settingsOk (st : Settings) : Prop :=
  settingsWf st = true ∧ (∀ id, valueFits id (getSetting st id) = true) ∧
  regimeRelation st = true ∧ runTimeRelation st = true ∧ socRelation st = true ∧ busRelation st = true ∧
  thermalRelation st = true

/-- R173, R175: the working settings and those of the stored copy are sound. -/
def State.settingsSound (s : State) : Prop := settingsOk s.settings ∧ settingsOk s.stored.values

/-! ## The shelf -/

/-- R82, R85: the limits planned for the modules of one poll cycle. -/
def planTotal : List PollPlan → Nat
  | [] => 0
  | .on limit :: rest => limit + planTotal rest
  | _ :: rest => planTotal rest

/-! ## Frames and the requests they carry -/

/-- R166, R168: the command that the completion of a good frame is, by its kind. -/
def Frame.command (f : Frame) : Instr := requestOf f.kind f.tag f.payload

/-- R167, R172: a good frame would be taken at once: the part has power, no reply is in flight and no restart is due. -/
def State.ready (s : State) : Bool := s.powered && s.link.reply.isNone && s.link.restart != .due

/-- R167: the state after a good frame has been counted, its receiver in HUNT. -/
def State.counted (s : State) : State := (countFrame ⟨s, []⟩).toState

/-- R160, R162: the state in which a request of a known kind is checked and carried out: its frame is counted, the
supervision timer is started afresh and HOLD has ended. -/
def State.heard (s : State) : State := (frameArrival (countFrame ⟨s, []⟩)).toState

/-- R167: the state with a reply in flight. -/
def State.answered (s : State) (kind tag : Byte) (a : Answer) : State :=
  { s with link := { s.link with reply := some (a.reply kind tag) } }

/-- Section 12.5: the payload of a known kind has the length of its kind; BEGIN has at least its slot and its kind. -/
def lengthFits (kind : Byte) (p : List Byte) : Bool :=
  match kind.toNat with
  | 0x01 => decide (p.length = 0)
  | 0x02 => decide (p.length = 0)
  | 0x03 => decide (p.length = 1)
  | 0x04 => decide (p.length = 1)
  | 0x05 => decide (p.length = 0)
  | 0x06 => decide (p.length = 1)
  | 0x07 => decide (p.length = 0)
  | 0x08 => decide (p.length = 1)
  | 0x09 => decide (p.length = 4)
  | 0x0A => decide (p.length = 1)
  | 0x0B => decide (p.length = 2)
  | 0x0C => decide (p.length = 0)
  | 0x20 => decide (p.length = 4)
  | 0x21 => decide (p.length = 0)
  | 0x22 => decide (p.length = 3)
  | 0x23 => decide (p.length = 2)
  | 0x24 => decide (p.length = 2)
  | 0x25 => decide (2 ≤ p.length)
  | 0x26 => decide (p.length = 1)
  | 0x27 => decide (p.length = 6)
  | 0x28 => decide (p.length = 6)
  | 0x29 => decide (p.length = 1)
  | 0x2A => decide (p.length = 2)
  | 0x2B => decide (p.length = 2)
  | 0x2C => decide (p.length = 1)
  | 0x2D => decide (p.length = 1)
  | 0x2E => decide (p.length = 0)
  | _ => true

/-- The subject that a payload of the right length names exists: a string, a position or the shelf, a channel, a point,
a slot, a setting, relays 1 to 14, points 1 to 41, or a target. -/
def subjectFits (kind : Byte) (p : List Byte) : Bool :=
  match kind.toNat with
  | 0x03 => decide (1 ≤ byteAt p 0 ∧ byteAt p 0 ≤ 4)
  | 0x04 => decide (byteAt p 0 ≤ 12)
  | 0x06 => decide (byteAt p 0 < 20)
  | 0x08 => decide (1 ≤ byteAt p 0 ∧ byteAt p 0 ≤ 41)
  | 0x0A => decide (byteAt p 0 < 4)
  | 0x0B => (settingRow (wordAt p 0)).isSome
  | 0x20 => (settingRow (wordAt p 0)).isSome
  | 0x23 => decide (wordAt p 0 < 16384)
  | 0x24 => decide (wordAt p 0 < 16384)
  | 0x25 => decide (byteAt p 0 < 4)
  | 0x26 => decide (byteAt p 0 < 4)
  | 0x27 => decide (maskAt p < 2199023255552)
  | 0x28 => decide (maskAt p < 2199023255552)
  | 0x29 => decide (1 ≤ byteAt p 0 ∧ byteAt p 0 ≤ 41)
  | 0x2A => decide (1 ≤ byteAt p 0 ∧ byteAt p 0 ≤ 5)
  | 0x2B => decide (1 ≤ byteAt p 0 ∧ byteAt p 0 ≤ 12)
  | 0x2C => decide (1 ≤ byteAt p 0 ∧ byteAt p 0 ≤ 12)
  | 0x2D => decide (1 ≤ byteAt p 0 ∧ byteAt p 0 ≤ 4)
  | _ => true

/-! ## What acts on what -/

/-- R104, R123: as things stand, no block acts on a change of point `p`'s state: a GEN_FAIL point outside LOCKOUT, a
STRING_THERMAL point without its claim, and every point that no block reads. -/
def State.unread (s : State) (p : Fin 41) : Bool :=
  (!decide (22 ≤ p.val ∧ p.val ≤ 24) || s.gen.state != .lockout) &&
  (indices 4).all fun n => p != pStringThermal n || !(s.targets.get (stringTarget n)).thermal

/-- R145, R148: event point `p` after a momentary condition at `s`: one activation, and LATCHED unless it is masked. -/
def State.latchedPoint (s : State) (p : Fin 41) : Point :=
  let pt := s.points.get p
  { pt with
    state := if s.masked p then pt.state else .latched
    escalated := s.masked p && pt.escalated
    timer := if s.masked p then pt.timer else none
    count := min 255 (pt.count + 1)
    first := if pt.count = 0 then s.siteSeconds else pt.first
    last := s.siteSeconds }

/-- R26: the relays with relay `r` driven; a drive it already has changes nothing. -/
def State.relaysWith (s : State) (r : Fin 14) (on : Bool) : Table Relay 14 :=
  if s.relayOn r = on then s.relays else s.relays.set r ⟨on, s.siteSeconds⟩

/-- R173: the settings at whose write their owner acts at once; every other setting is read where it is used. -/
def ownedSetting (id : Nat) : Bool :=
  decide (id = 0x0100 ∨ id = 0x0110 ∨ id = 0x0120 ∨ id = 0x0130) || formsSetpoint id ||
  decide (id = 0x0207 ∨ id = 0x0409 ∨ id = 0x050E ∨ id = 0x07C0 ∨ id = 0x0800 ∨ id = 0x0801) ||
  decide (0x0700 < id ∧ id ≤ 0x0729) || decide (0x0780 < id ∧ id ≤ 0x07A9) ||
  decide (0x0810 ≤ id ∧ id ≤ 0x081F) || decide (0x0900 ≤ id ∧ id ≤ 0x0913)

/-- What a scheduler evaluation made while a run is in flight, and the equalize and the rotation that it may begin, leave
as it is (R107): every other field is blanked. The relays it may form are the three of the severities. -/
def State.besideEvaluation (s : State) : State :=
  { s with
    fresh := 0, sched := Scheduler.start, points := Table.fill 41 Point.start, log := []
    charge := RegimeRec.start, shelf := Shelf.start, slots := Table.fill 4 none, relays := Table.fill 14 ⟨false, 0⟩ }

/-- The relays other than the three of the severities stand as in another state. -/
def State.otherRelaysAs (s t : State) : Prop :=
  ∀ r : Fin 14, r ≠ rAlmCrit → r ≠ rAlmMaj → r ≠ rAlmMin → s.relays.get r = t.relays.get r

/-- R73: the state that the table of R73 gives an enrolled module for a reply; `good` counts the good replies in FAULT. -/
def replyState (st : ModuleState) (out : ModuleOut) (good : Nat) : ModuleState :=
  match st, out with
  | .unpolled, .on => .online
  | .unpolled, .off => .standby
  | .unpolled, .fault => .fault
  | .standby, .fault => .fault
  | .standby, _ => .standby
  | .starting, .on => .online
  | .starting, .off => .starting
  | .starting, .fault => .fault
  | .online, .on => .online
  | .online, _ => .fault
  | .fault, .fault => .fault
  | .fault, _ => if 3 ≤ good + 1 then .standby else .fault
  | .lost, .fault => .fault
  | .lost, _ => .standby
  | st, _ => st

/-- R93, R97, R100, R102: the controller, as its state supervises the engine, has nothing to act on. -/
def State.engineQuiet (s : State) : Bool :=
  match s.gen.state with
  | .crank => !s.running
  | .rest => !s.running
  | .warmup => s.running && !(s.gen.window.isSome && s.genWatches)
  | .idling => s.running && s.genWatches && !s.faultInput && s.mains.source != .none
  | .onloadWalkin => s.running && s.genWatches && !s.faultInput
  | .onloadRunning => s.running && s.genWatches && !s.faultInput
  | .onloadUnloading => s.running && s.genWatches && !s.faultInput
  | .cooldown => s.running && !s.faultInput
  | .rundown => s.running
  | _ => true

/-! ## What stands still at a scan completion

Each is read on the state with the new measurement records, `before` being the records of the scan before. -/

/-- R9, R10: watch `k` came to read TRUE. -/
def State.rose (s : State) (before : Measurement) (k : Fin 16) : Bool := s.watch k && !(before.watches.get k).reading

/-- R90, R93: the grid keeps its qualification, and the controller has nothing to act on. -/
def State.sourcesStill (s : State) : Bool := s.gridWatches == s.mains.qualified && s.engineQuiet

/-- R124: no row of the ladder changes the stage. -/
def State.ladderStill (s : State) (before : Measurement) : Bool :=
  (!s.rose before wNeldOpen || s.lvd != .normal) && (!s.rose before wLvdOpen || s.lvd == .battOff) &&
  (!s.rose before wLvdReclose || s.lvd == .normal || !s.sourcePresent)

/-- R122: string `n` is at or above thermal_open. -/
def State.thermalHot (s : State) (n : Fin 4) : Bool :=
  match s.reads (cStrT n) with | some t => decide ((s.setting 0x0606 : Int) ≤ t) | none => false

/-- R122: the rate of string `n` is at or above dT_limit. -/
def State.thermalFast (s : State) (n : Fin 4) : Bool :=
  match s.stringRate n with | some r => decide ((s.setting 0x0608 : Int) ≤ r) | none => false

/-- R122, R123: no THERMAL claim is asserted or withdrawn, whatever the phases become. -/
def State.thermalStill (s : State) : Bool :=
  (indices 4).all fun n =>
    if (s.targets.get (stringTarget n)).thermal then !s.thermalReleased n
    else !s.enrolled n || (!s.thermalHot n && !s.thermalFast n)

/-- At a scan completion only accounting and the regime have work to do: the sources, the ladder and the THERMAL claims
stand still, and no discharge test is in flight. -/
def State.scanStill (s : State) (before : Measurement) : Bool :=
  s.sourcesStill && s.ladderStill before && s.thermalStill && !s.occupied sTest

/-! ## Outcomes -/

/-- An outcome that stops the machine. -/
def stops (o : Host.Outcome State Fault Refusal) : Bool :=
  match o with
  | .next _ => false
  | .fault _ => true
  | .refused _ => true

end Sys2Proof.Machine
end

