-- ==== Sys2Proof/Certificates/Slice0/Obligations.lean ====
section
/-! DEFINITION. The statements for the provers: what the commands do to the block, by the numbered rules of the manual. -/

open Sys2Proof Sys2Proof.Machine

/-! ## Steps and frames -/

/-- A step takes the command at the front of the queue and carries it out on the state with the queue's rest; an empty
queue leaves the block idle (the model's choice, notes/assumptions/3.md). -/
def Obligations.StepRunsFrontCommand : Prop :=
  (∀ (c : Instr) (rest : List Instr) (s : State),
    step (s.withPending (c :: rest)) = exec c (s.withPending rest)) ∧
  ∀ s : State, s.pending = [] → step s = .next s

/-- Every command, in every state, ends in a next state, and leaves the queue of waiting commands as it is. It says
nothing of what a command does; that a command that cannot come (notes/assumptions/1.md), an ill-formed one
(notes/assumptions/39.md) and one given to a part without power (notes/assumptions/7.md) ends so is the model's
choice. -/
def Obligations.CommandsComplete : Prop :=
  ∀ (c : Instr) (s : State), ∃ t, exec c s = .next t ∧ t.pending = s.pending

/-- R166, R167: the bytes of a frame, received one by one from HUNT, are together the completion of that frame: the
command of its kind when the CRC matches, and the discarded frame when one of the two CRC bytes differs. That the last
byte completes the frame within its own command is the model's choice, notes/assumptions/5.md. -/
def Obligations.FrameBytesMakeTheCommand : Prop :=
  ∀ (f : Frame) (s : State), s.powered = true → s.link.receiver = .hunt → s.pending = [] → f.payload.length ≤ 96 →
    Host.Core.run Sys2Proof.core (f.payload.length + 6) (s.withPending ((frameBytes f).map .byteReceived)) =
      exec f.command s ∧
    ∀ a b : Byte, [a, b] ≠ crcBytes (crc16 (frameBody f)) →
      Host.Core.run Sys2Proof.core (f.payload.length + 6)
        (s.withPending ((0x5A#8 :: (frameBody f ++ [a, b])).map .byteReceived)) = exec .badCrcFrame s

/-- R167: what a byte does in each state of the receiver, what the gap timer's expiry does, and what a frame does whose
CRC does not match. A byte that completes a frame is the command of that frame. -/
def Obligations.ReceiverTakesBytes : Prop :=
  ∀ (s : State) (b : Byte), s.powered = true →
    (s.link.receiver = .hunt → exec (.byteReceived b) s =
      .next { s with link := { s.link with receiver := if b = 0x5A#8 then .length else .hunt } }) ∧
    (s.link.receiver = .length → exec (.byteReceived b) s =
      .next { s with link :=
        if 2 ≤ b.toNat ∧ b.toNat ≤ 98 then { s.link with receiver := .body b.toNat [b] }
        else { s.link with receiver := .hunt, status := { s.link.status with fragment := true } } }) ∧
    (∀ left got, s.link.receiver = .body left got → exec (.byteReceived b) s =
      .next { s with link := { s.link with
        receiver := if left ≤ 1 then .check (got ++ [b]) none else .body (left - 1) (got ++ [b]) } }) ∧
    (∀ got, s.link.receiver = .check got none → exec (.byteReceived b) s =
      .next { s with link := { s.link with receiver := .check got (some b) } }) ∧
    (∀ got c, s.link.receiver = .check got (some c) → exec (.byteReceived b) s =
      if [c, b] = crcBytes (crc16 got) then exec (frameOf got).command s else exec .badCrcFrame s) ∧
    exec .badCrcFrame s =
      .next { s with link := { s.link with receiver := .hunt, status := { s.link.status with crc := true } } } ∧
    exec .receiverGapTimerExpiry s = .next
      (if s.link.receiver = .hunt then s else
        { s with link := { s.link with receiver := .hunt, status := { s.link.status with fragment := true } } })

/-- R167, R172: the reply in flight. A good frame completed meanwhile is counted and held; with a frame held already it is
counted and discarded, with OVERRUN (the rows for the two cases and the row of the frame's own kind are one event: the
model's choice, notes/assumptions/4.md). When the last byte of the reply is sent no reply is in flight and no frame is
held: a frame that was held is taken, as if it were completed then (its count apart); after the acceptance of a RESTART
the persistence record is written instead, and the restart is due (that the held frame is dropped and the record written
at that moment is the model's choice, notes/assumptions/22.md). With no reply in flight the last byte changes nothing (the
model's choice, notes/assumptions/1.md). -/
def Obligations.FramesAndEndOfReply : Prop :=
  (∀ (f : Frame) (s : State) (c : Instr), s.powered = true → s.link.reply.isSome = true →
    (c = f.command ∨ c = .frameHeld f.kind f.tag f.payload ∨ c = .overrun f.kind f.tag f.payload) →
    exec c s = .next
      { s with link := { s.link with
          receiver := .hunt
          held := match s.link.held with | none => some f | some g => some g
          status := { s.link.status with
            good := (s.link.status.good + 1) % 65536
            overrun := s.link.status.overrun || s.link.held.isSome } } }) ∧
  ∀ s : State, s.powered = true →
    (s.link.reply = none → exec .replySent s = .next s) ∧
    (s.link.reply.isSome = true → s.link.restart = .accepting → exec .replySent s = .next
      { s with
        link := { s.link with reply := none, held := none, restart := .due }
        record := ⟨s.recordItems, crc16 (recordBytes s.recordItems), false⟩ }) ∧
    (s.link.reply.isSome = true → s.link.restart ≠ .accepting → s.link.held = none →
      exec .replySent s = .next { s with link := { s.link with reply := none } }) ∧
    ∀ f, s.link.reply.isSome = true → s.link.restart ≠ .accepting → s.link.held = some f →
      exec .replySent s =
        .next (settleAll (takeFrame f ⟨{ s with link := { s.link with reply := none, held := none } }, []⟩)).toState ∧
      (s.link.restart = .none → s.link.receiver = .hunt → s.link.status.good < 65536 →
        exec .replySent s = exec f.command { s with link := { s.link with
          reply := none, held := none
          status := { s.link.status with good := (s.link.status.good + 65535) % 65536 } } })

/-! ## Mode and arrival -/

/-- R160, R162, R167: the arrival of a frame of a known kind. Whether its request is accepted or refused, the part is
then ATTENDED with the supervision timer started afresh; a frame that ends HOLD has cause HOST and the present site
seconds. The request is carried out in this state: in ATTENDED only the link's count and the supervision timer have
changed; in HOLD the mode has changed too, with its MODE entry, and the HOST_SILENT condition is false: the point
falls by R148 when its effective condition does. Everything else is as it was. -/
def Obligations.FrameArrives : Prop :=
  (∀ (f : Frame) (s : State), s.ready = true → kindKnown f.kind = true →
    ∃ t, exec f.command s = .next t ∧ t.mode.mode = .attended ∧ t.mode.timer = t.supervision ∧
      (s.mode.mode = .attended → t.mode.cause = s.mode.cause ∧ t.mode.entered = s.mode.entered) ∧
      (s.mode.mode = .hold → t.mode.cause = .host ∧ t.mode.entered = s.siteSeconds)) ∧
  ∀ s : State,
    (s.mode.mode = .attended → s.heard = { s.counted with mode := { s.mode with timer := s.supervision } }) ∧
    (s.mode.mode = .hold →
      s.heard.mode =
        { s.mode with mode := .attended, cause := .host, entered := s.siteSeconds, timer := s.supervision } ∧
      s.heard.link = s.counted.link ∧
      (∀ p, p ≠ pHostSilent → s.heard.points.get p = s.points.get p) ∧
      (s.heard.points.get pHostSilent).raw = false ∧
      s.heard.otherRelaysAs s ∧
      { s.heard with mode := s.mode, link := s.link, points := s.points, relays := s.relays, log := s.log } = s ∧
      let p := s.points.get pHostSilent
      let entries := logAppend s.log s.siteSeconds .mode 0 .host (some 3)
      let fell := p.raw && !p.proof && !s.masked pHostSilent
      ((s.heard.points.get pHostSilent).state =
        if fell && (p.state == .held) then .normal
        else if fell && (p.state == .raised) then (if s.latching pHostSilent then .latched else .normal)
        else p.state) ∧
      s.heard.log =
        if fell && (p.state == .held) then logAppend entries s.siteSeconds .alarmNormal 36 .part (some 0)
        else if fell && (p.state == .raised) then
          logAppend entries s.siteSeconds (if s.latching pHostSilent then .alarmLatched else .alarmNormal) 36 .part (some 0)
        else entries)

/-- R160, R161, R27: when the supervision timer expires in ATTENDED the mode is HOLD with cause SILENT, every HOST
claim is withdrawn, the AUX relays have their hold states, a discharge test is over, and HOST_SILENT's condition is
true. In HOLD the timer stops, that condition is true, its point rises by R148, and nothing else changes. -/
def Obligations.SupervisionExpires : Prop :=
  ∀ (s : State) (x : Timer), s.powered = true → s.mode.timer = some x →
    ∃ t, exec .supervisionTimerExpiry s = .next t ∧ t.ms = max s.ms x.due ∧ t.mode.timer = none ∧ t.mode.mode = .hold ∧
      t.mode.remaining = s.mode.remaining ∧ (t.points.get pHostSilent).raw = true ∧
      t.settings = s.settings ∧ t.meas = s.meas ∧ t.inputs = s.inputs ∧ t.clock = s.clock ∧ t.link = s.link ∧
      t.stored = s.stored ∧ t.record = s.record ∧
      (s.mode.mode = .hold →
        let p := s.points.get pHostSilent
        let moves := !p.effective && !s.masked pHostSilent && (p.state == .normal || p.state == .latched)
        (∀ q, q ≠ pHostSilent → t.points.get q = s.points.get q) ∧
        (t.points.get pHostSilent).state = (if moves then .raised else p.state) ∧
        t.log = (if moves then logAppend s.log t.siteSeconds .alarmRaised 36 .part (some (s.setting 0x0800 : Int))
          else s.log) ∧
        t.otherRelaysAs s ∧
        { t with points := s.points, relays := s.relays, log := s.log } =
          { s with ms := max s.ms x.due, mode := { s.mode with timer := none } }) ∧
      (s.mode.mode = .attended →
        t.mode.cause = .silent ∧ t.mode.entered = (max s.ms x.due) / 1000 % 4294967296 ∧
        (∀ k, (t.targets.get k).host = none) ∧
        (t.occupied sTest = false) ∧
        t.relayOn rAux1 = (if s.setting 0x0820 = 1 then false else if s.setting 0x0820 = 2 then true else s.relayOn rAux1) ∧
        t.relayOn rAux2 = (if s.setting 0x0821 = 1 then false else if s.setting 0x0821 = 2 then true else s.relayOn rAux2))

/-! ## The reading requests -/

/-- R22: READ INPUTS answers the 16 input records in order, and every changed flag is clear after it; with a payload it is
refused BAD_LENGTH and the flags stay. Nothing else changes. -/
def Obligations.InputsReadAndCleared : Prop :=
  ∀ (s : State) (tag : Byte) (p : List Byte), s.ready = true →
    (p ≠ [] → exec (.readInputs tag p) s = .next (s.heard.answered 0x07#8 tag (.refuse .badLength 0))) ∧
    ∃ t, exec (.readInputs tag []) s = .next t ∧
      (∀ i : Fin 16, t.inputs.get i = { s.inputs.get i with changed := false }) ∧
      t.link = { s.heard.link with reply := some (.accept 0x07#8 tag (.inputs
        ((indices 16).map fun i => ⟨(s.inputs.get i).active, (s.inputs.get i).changed, (s.inputs.get i).stamp⟩))) } ∧
      { t with inputs := s.inputs, link := s.heard.link } = s.heard

/-- R170, R171, R169, R45, R78, R15, R157, R137, R174: the reads of the site records and of one record by its index.
Each answers its record, as the state stands after the arrival; READ LINK then clears the four link flags, READ
OPERATION marks a DONE record read, and nothing else changes. That the seconds left of a timer are whole milliseconds
over 1000 is the model's choice (notes/assumptions/25.md), and so are the ramp's figures in the shelf record
(notes/assumptions/40.md). -/
def Obligations.RecordsRead : Prop :=
  ∀ (s : State) (tag : Byte), s.ready = true →
    exec (.readIdentity tag []) s = .next (s.heard.answered 0x01#8 tag (.accept
      (.identity "RZP48" 1 (Straps.rate s.link.straps) s.siteSeconds s.lastRestart s.settingsFrom))) ∧
    exec (.readPlant tag []) s = .next (s.heard.answered 0x02#8 tag (.accept (.plant s.heard.plant))) ∧
    exec (.readSources tag []) s = .next (s.heard.answered 0x05#8 tag (.accept (.sources s.heard.sources))) ∧
    exec (.readLink tag []) s = .next
      (State.answered { s.heard with link := { s.counted.link with
          status := ⟨false, false, false, false, (s.link.status.good + 1) % 65536⟩ } } 0x0C#8 tag
        (.accept (.link { s.link.status with good := (s.link.status.good + 1) % 65536 }))) ∧
    (∀ n : Fin 4, exec (.readString tag [BitVec.ofNat 8 (n.val + 1)]) s =
      .next (s.heard.answered 0x03#8 tag (.accept (.string
        ⟨n, s.enrolled n, s.heard.inService n, stringSetting s.settings n 1, s.strings.get n⟩)))) ∧
    (∀ p : Fin 12, exec (.readModule tag [BitVec.ofNat 8 (p.val + 1)]) s =
      .next (s.heard.answered 0x04#8 tag (.accept (.module
        ⟨p, s.moduleEnrolled p, s.shelf.modules.get p, s.leftMs (s.shelf.modules.get p).startTimer / 1000⟩)))) ∧
    exec (.readModule tag [0]) s = .next (s.heard.answered 0x04#8 tag (.accept (.shelf s.shelfReply))) ∧
    (∀ c : Fin 20, exec (.readChannel tag [BitVec.ofNat 8 c.val]) s =
      .next (s.heard.answered 0x06#8 tag (.accept (.channel (s.channelReply c))))) ∧
    (∀ p : Fin 41, exec (.readAlarms tag [BitVec.ofNat 8 (p.val + 1)]) s =
      .next (s.heard.answered 0x08#8 tag (.accept (s.heard.alarms p)))) ∧
    (∀ k : Fin 4, exec (.readOperation tag [BitVec.ofNat 8 k.val]) s =
      .next (State.answered
        { s.heard with slots := match s.slots.get k with
          | some r => s.slots.set k (some { r with unread := r.unread && r.state != .done })
          | none => s.slots } 0x0A#8 tag (.accept (.operation (s.heard.operationReply k))))) ∧
    ∀ (id : Nat) (r : SettingRow), settingRow id = some r →
      exec (.readSetting tag (bytes2 id)) s = .next (s.heard.answered 0x0B#8 tag (.accept
        (.setting ⟨id, s.setting id, r.low, r.high, r.default, getSetting s.loaded id⟩)))

/-- R156: READ LOG from sequence v answers the oldest and the newest sequence, the GAP flag, and at most six entries;
while v is held they are the entries from v on, one by one in sequence, and with v one above the newest there is none. -/
def Obligations.LogRead : Prop :=
  ∀ (s : State) (tag : Byte) (v : Nat), s.ready = true → v < 4294967296 → s.heard.logOk = true →
    exec (.readLog tag (bytes4 v)) s = .next (s.heard.answered 0x09#8 tag (.accept
      (.log (oldestSeq s.heard.log) (newestSeq s.heard.log)
        (decide (v ≠ 0 ∧ v < oldestSeq s.heard.log) || decide (newestSeq s.heard.log + 1 < v))
        (logEntries s.heard.log v)))) ∧
    (logEntries s.heard.log v).length ≤ 6 ∧
    (s.heard.log ≠ [] → oldestSeq s.heard.log ≤ v → v ≤ newestSeq s.heard.log →
      (logEntries s.heard.log v).length = min 6 (newestSeq s.heard.log + 1 - v) ∧
      ∀ (i : Nat) (e : LogEntry), (logEntries s.heard.log v)[i]? = some e → e.seq = v + i ∧ e ∈ s.heard.log) ∧
    (v = newestSeq s.heard.log + 1 → s.heard.log ≠ [] → logEntries s.heard.log v = []) ∧
    ((v < oldestSeq s.heard.log ∨ newestSeq s.heard.log + 1 < v) → logEntries s.heard.log v = s.heard.log.take 6)

/-! ## Refusals -/

/-- R168 and each request's own rule: the requests that are not carried out. A frame of a kind that the catalogue does
not hold is refused UNKNOWN_KIND and sets UNKNOWN, and it does not act on the mode. A request of a known kind whose
payload has not the length of its kind is refused BAD_LENGTH, whatever the payload holds; one of the right length that
names a string, position, channel, point, slot, setting, relay or target that does not exist is refused BAD_SUBJECT.
Nothing else changes. Where a request's own rule gives its refusals no order, that the length is judged first is the
model's choice, notes/assumptions/30.md. -/
def Obligations.UnfitRequestsRefused : Prop :=
  (∀ (s : State) (kind tag : Byte) (p : List Byte), s.ready = true → kindKnown kind = false →
    exec (.unknownKind kind tag p) s = .next
      { s with link := { s.link with
          receiver := .hunt
          status := { s.link.status with good := (s.link.status.good + 1) % 65536, unknown := true }
          reply := some (.refuse kind tag .unknownKind 0) } }) ∧
  ∀ (f : Frame) (s : State), s.ready = true → kindKnown f.kind = true →
    (lengthFits f.kind f.payload = false →
      exec f.command s = .next (s.heard.answered f.kind f.tag (.refuse .badLength 0))) ∧
    (lengthFits f.kind f.payload = true → subjectFits f.kind f.payload = false →
      exec f.command s = .next (s.heard.answered f.kind f.tag (.refuse .badSubject 0)))

/-! ## Settings, the store and the clock -/

/-- R173: WRITE SETTING of a setting that exists. Its refusals, in their order: BUSY while a store is pending,
NOT_OWNER for the enrolled mask, CONFLICT for a value that breaks a relation; then nothing else changes. A write that
is accepted leaves the setting at the nearest value of its range (in the gap of a split range, at the bottom of the
upper part), every other setting as it was, and answers CLAMPED, the id and the value taken. The stored copy, the
record, the clock and time do not change. A setting that is read where it is used changes nothing else at all. -/
def Obligations.SettingWritten : Prop :=
  (∀ (s : State) (tag : Byte) (id v : Nat) (r : SettingRow), s.ready = true → settingRow id = some r → v < 65536 →
    (s.storePending = true ∨ id = 0x0309 ∨
      relationHolds id (putSetting s.settings id (clampSetting r v)) = false) →
    exec (.writeSetting tag (bytes2 id ++ bytes2 v)) s = .next (s.heard.answered 0x20#8 tag
      (.refuse (if s.storePending then .busy else if id = 0x0309 then .notOwner else .conflict) 0))) ∧
  ∀ (s : State) (tag : Byte) (id v : Nat) (r : SettingRow), s.ready = true → s.storePending = false →
    settingsWf s.settings = true → settingRow id = some r → id ≠ 0x0309 → v < 65536 →
    relationHolds id (putSetting s.settings id (clampSetting r v)) = true →
    ∃ t, exec (.writeSetting tag (bytes2 id ++ bytes2 v)) s = .next t ∧
      t.setting id = (if v ≠ 0 ∧ v < r.gap then r.gap else max r.low (min r.high v)) ∧
      (∀ j, j ≠ id → t.setting j = s.setting j) ∧
      t.link = { s.heard.link with
        reply := some (.accept 0x20#8 tag (.written (clampSetting r v != v) id (clampSetting r v))) } ∧
      t.stored = s.stored ∧ t.loaded = s.loaded ∧ t.record = s.record ∧ t.storePending = false ∧ t.clock = s.clock ∧
      t.ms = s.ms ∧
      (ownedSetting id = false → t = State.answered
        { s.heard with settings := putSetting s.settings id (clampSetting r v) } 0x20#8 tag
          (.accept (.written (clampSetting r v != v) id (clampSetting r v))))

/-- R59, R115, R160, R55, R163, R104: what six owners do at a write. A base voltage or a figure of the compensation
re-forms the setpoint; fuel_fill sets the estimate to ten times it and the burn counts to 0; t_sup starts the
supervision timer afresh, or stops it at 0; absorb_max moves the expiry of a running absorb timer, and is its expiry
when that moment has passed; allowance_min renews the allowance, with ALLOWANCE_OUT's condition; start_fail_retry_h
moves the retry timer of a lockout that START alone holds, counted from the entry, stops it at 0, and is its expiry
when that moment has passed; in another state it does nothing. Each changes nothing else; an expiry acts as the
timer's. -/
def Obligations.OwnersActAtAWrite : Prop :=
  ∀ (s : State) (tag : Byte) (id v : Nat) (r : SettingRow), s.ready = true → s.storePending = false →
    settingsWf s.settings = true → settingRow id = some r → v < 65536 →
    relationHolds id (putSetting s.settings id (clampSetting r v)) = true →
    let x := clampSetting r v
    let st := putSetting s.settings id x
    let done := fun t : State => exec (.writeSetting tag (bytes2 id ++ bytes2 v)) s =
      .next (t.answered 0x20#8 tag (.accept (.written (x != v) id x)))
    (formsSetpoint id = true → x ≠ s.setting id →
      done { s.heard with
        settings := st
        charge := { s.charge with setpoint := formedSetpoint st s.charge } }) ∧
    (id = 0x050E → done { s.heard with
      settings := st, sched := { s.sched with estimate := x * 10, loadedS := 0, runningS := 0 } }) ∧
    (id = 0x0800 → done { s.heard with
      settings := st
      mode := { s.heard.mode with timer := if x = 0 then none else some ⟨s.ms, s.ms + x * 1000⟩ } }) ∧
    (∀ a : Timer, id = 0x0207 → x ≠ s.setting id → s.charge.absorb = some a →
      (s.ms < a.start + x * 3600000 → done { s.heard with
        settings := st
        charge := { s.charge with absorb := some ⟨a.start, a.start + x * 3600000⟩ } }) ∧
      (a.start + x * 3600000 ≤ s.ms → ∃ t, exec (.writeSetting tag (bytes2 id ++ bytes2 v)) s = .next t ∧
        t.charge.regime = .float ∧ t.charge.absorb = none ∧ t.charge.entered = s.siteSeconds ∧
        t.points.get pAbsorbTimeout = State.latchedPoint { s.heard with settings := st } pAbsorbTimeout)) ∧
    (id = 0x0801 → ∃ t, exec (.writeSetting tag (bytes2 id ++ bytes2 v)) s = .next t ∧
      t.mode = { s.heard.mode with remaining := x, holdOnloadS := 0 } ∧
      (t.points.get pAllowanceOut).raw = decide (x = 0) ∧
      (∀ p, p ≠ pAllowanceOut → t.points.get p = s.heard.points.get p) ∧ t.otherRelaysAs s.heard ∧
      { t with settings := s.settings, mode := s.heard.mode, points := s.heard.points, relays := s.heard.relays,
               log := s.heard.log, link := s.heard.link } = s.heard) ∧
    (id = 0x0409 → x ≠ s.setting id →
      let due := s.gen.lockoutAt + x * 3600000
      let held := s.gen.state = .lockout ∧ s.gen.causes = ⟨true, false, false⟩
      (¬ held → done { s.heard with settings := st }) ∧
      (held → x = 0 ∨ s.ms < due → done { s.heard with
        settings := st
        gen := { s.gen with retry := if x = 0 then none else some ⟨s.gen.lockoutAt, due⟩ } }) ∧
      (held → x ≠ 0 → due ≤ s.ms → (s.points.get pGenFailRun).state = .normal →
        (s.points.get pGenFailStop).state = .normal → (s.points.get pGenFailStart).state ≠ .normal →
        s.mains.qualified = true → s.running = false →
        ∃ t, exec (.writeSetting tag (bytes2 id ++ bytes2 v)) s = .next t ∧ t.gen.state = .off ∧
          t.gen.causes = ⟨false, false, false⟩ ∧ t.gen.retry = none ∧ (t.points.get pGenFailStart).state = .normal))

/-- R2, R6, R12, R42, R121, R122, R18, R19: what a write of chan_en, of str_en and of in_pol makes. A channel whose
enablement changes begins again or is DISABLED, its rate history empty and a disabled channel's watches FALSE, every
other record standing; the conditions formed from the records follow. A string that becomes enrolled has a new record,
with half its capacity and all of it uncertain; one that becomes unenrolled is ISOLATED without its full marker, its
THERMAL claim is withdrawn, and SERVICE says OPEN, so that an isolated string's drive does not change. A polarity that
changes the active state of an input makes the input change event. (No discharge test being in flight. The order of
the blocks at the write and SOC by R37's formula are the model's choices, notes/assumptions/44.md and 56.md.) -/
def Obligations.EnablementWritten : Prop :=
  ∀ (s : State) (tag : Byte) (id v : Nat) (r : SettingRow), s.ready = true → s.storePending = false →
    settingsWf s.settings = true → settingRow id = some r → v < 65536 → s.occupied sTest = false →
    let x := clampSetting r v
    let st := putSetting s.settings id x
    x ≠ s.setting id →
    ∃ t, exec (.writeSetting tag (bytes2 id ++ bytes2 v)) s = .next t ∧
      ((0x0900 ≤ id ∧ id ≤ 0x0913) ∨ (∃ n : Fin 4, id = 0x0100 + 0x10 * n.val) →
        let moved := fun c : Fin 20 => channelEnabled s.settings c != channelEnabled st c
        (∀ c : Fin 20, t.meas.channels.get c =
          if moved c then ⟨none, if channelEnabled st c then .noData else .disabled, 65535⟩
          else s.meas.channels.get c) ∧
        (∀ q : Fin 5, t.meas.rates.get q = if moved (rateChannel q) then ⟨[], none⟩ else s.meas.rates.get q) ∧
        (∀ k : Fin 16, t.meas.watches.get k =
          if moved (watchSpec st k).channel && !channelEnabled st (watchSpec st k).channel then ⟨.isFalse, 0⟩
          else s.meas.watches.get k) ∧
        (t.points.get pSensorFault).raw = someFaulty t.meas.channels ∧
        (t.points.get pBusHigh).raw = t.watch wBusHigh ∧ (t.points.get pBusLow).raw = t.watch wBusLow ∧
        (t.points.get pLvdWarn).raw = t.watch wLvdWarn ∧
        (∀ n : Fin 4, (t.points.get (pStringHot n)).raw = t.watch (wStrHot n)) ∧
        t.mains.qualified = t.gridWatches) ∧
      (∀ n : Fin 4, id = 0x0100 + 0x10 * n.val →
        let old := s.strings.get n
        let T := stringTarget n
        (∀ m, m ≠ n → t.strings.get m = s.strings.get m) ∧
        (x = 1 →
          let cap := match s.reads cAmbT with | some a => (a, TempSource.ambient) | none => (250, TempSource.default)
          let c := stringSetting s.settings n 1 * 360000 * capacityFactor (s.setting 0x0140) cap.1 / 1024
          t.strings.get n = { old with
            tCap := cap.1, tSource := cap.2, cEff := c, q := c / 2, u := c, soc := 1000 * (c / 2) / c
            socC := 1000 * (c / 2 - c) / c, phase := .isolated, full := false, tail := 0, sinceFull := 2147483647
            lastI := none, test := none } ∧
          (t.targets.get T).service = (if old.fault then .opened else .closed)) ∧
        (x = 0 →
          t.strings.get n = { old with phase := .isolated, full := false, tail := 0, lastI := none } ∧
          (t.targets.get T).service = .opened ∧ (t.targets.get T).thermal = false ∧
          ((s.targets.get T).thermal = true → (t.points.get (pStringThermal n)).raw = false) ∧
          ((s.targets.get T).thermal = true → (s.targets.get T).drive = .opened → (s.targets.get T).lvd = false →
            (s.targets.get T).hand = false → (s.targets.get T).host = none →
            (t.targets.get T).drive = .opened ∧ (t.targets.get T).decider = .service ∧
            t.relays.get (rTarget T) = s.heard.relays.get (rTarget T)))) ∧
      ∀ i : Fin 16, id = 0x0810 + i.val →
        let old := s.inputs.get i
        let a := activeOf old.contact x
        t.inputs = s.inputs.set i (if a = old.active then old
          else { old with active := a, changed := true, stamp := s.siteSeconds }) ∧
        (a = old.active → t = State.answered { s.heard with settings := st } 0x20#8 tag
          (.accept (.written (x != v) id x))) ∧
        (a ≠ old.active → ∀ p, (i = iDoor ∧ p = pDoor) ∨ (i = iSmoke ∧ p = pSmoke) ∨ (i = iUser ∧ p = pUser) ∨
          (i = iHand ∧ p = pHand) → (t.points.get p).raw = a) ∧
        (a ≠ old.active → i = iHand → ∀ T : Fin 5, (t.targets.get T).hand = a)

/-- R149: masking a point makes it NORMAL, with an ALARM_NORMAL entry of origin HOST if it stood elsewhere; unmasking a
condition point whose effective condition is true makes it RAISED, with an ALARM_RAISED entry of origin HOST. The three
severity relays are formed; nothing else changes. (For a point on whose state no block acts as things stand.) -/
def Obligations.MaskWritten : Prop :=
  ∀ (s : State) (tag : Byte) (p : Fin 41) (on : Bool), s.ready = true → s.storePending = false →
    settingsWf s.settings = true → s.unread p = true → s.masked p = !on →
    ∃ t, exec (.writeSetting tag (bytes2 (0x0781 + p.val) ++ bytes2 on.toNat)) s = .next t ∧
      t.masked p = on ∧ (∀ q, q ≠ p → t.points.get q = s.heard.points.get q) ∧
      ((t.points.get p).raw = (s.heard.points.get p).raw ∧ (t.points.get p).proof = (s.heard.points.get p).proof) ∧
      (on = true → (t.points.get p).state = .normal ∧
        t.log = if (s.heard.points.get p).state = .normal then s.heard.log
          else logAppend s.heard.log s.siteSeconds .alarmNormal (p.val + 1) .host none) ∧
      (on = false →
        if (s.heard.points.get p).effective = true ∧ isEventPoint p = false then
          (t.points.get p).state = .raised ∧
          t.log = logAppend s.heard.log s.siteSeconds .alarmRaised (p.val + 1) .host none
        else t.points.get p = s.heard.points.get p ∧ t.log = s.heard.log) ∧
      t.otherRelaysAs s.heard ∧
      (s.relaysFormed = true → t.relayOn rAlmCrit = !t.severityStands .critical ∧
        t.relayOn rAlmMaj = !t.severityStands .major ∧ t.relayOn rAlmMin = !t.severityStands .minor) ∧
      { t with settings := s.settings, points := s.heard.points, relays := s.heard.relays, log := s.heard.log,
               link := s.heard.link } = s.heard

/-- R175, R176, R172, R118: STORE SETTINGS makes a store pending, and is refused BUSY while one is; its completion writes
the stored copy with its checksum and the persistence record, with a SETTINGS_STORED entry (with no store pending it
changes nothing: the model's choice, notes/assumptions/1.md). RESTART is accepted with an empty record, and refused BUSY
while a store is pending; the restart itself follows its acceptance. SET CLOCK sets the day and the minute with the second
0 and answers them; a day above 6 or a minute above 1439 is refused RANGE. Nothing else changes. -/
def Obligations.StoreRestartAndClockTaken : Prop :=
  ∀ (s : State) (tag : Byte),
    (s.ready = true → exec (.storeSettings tag []) s = .next
      (if s.storePending then s.heard.answered 0x21#8 tag (.refuse .busy 0)
       else State.answered { s.heard with storePending := true } 0x21#8 tag (.accept .empty))) ∧
    (s.powered = true → exec .storeCompletion s = .next
      (if s.storePending then
        { s with
          storePending := false
          stored := ⟨s.settings, settingsChecksum s.settings, false⟩
          loaded := s.settings
          record := ⟨s.recordItems, crc16 (recordBytes s.recordItems), false⟩
          log := logAppend s.log s.siteSeconds .settingsStored 0 .host none }
       else s)) ∧
    (s.ready = true → exec (.restartRequest tag []) s = .next
      (if s.storePending then s.heard.answered 0x2E#8 tag (.refuse .busy 0)
       else State.answered { s.heard with link := { s.heard.link with restart := .accepting } } 0x2E#8 tag
         (.accept .empty))) ∧
    ∀ d m : Nat, s.ready = true → d < 256 → m < 65536 →
    exec (.setClock tag (BitVec.ofNat 8 d :: bytes2 m)) s = .next
      (if d ≤ 6 ∧ m ≤ 1439 then
        State.answered { s.heard with clock := some ⟨d, m, 0⟩ } 0x22#8 tag (.accept (.clock ⟨d, m, 0⟩))
       else s.heard.answered 0x22#8 tag (.refuse .range 0))

/-- R176, R175: the hourly write puts the items as they stand into the persistence record, unless a store is pending; a
loss of power leaves the record incomplete when it was being written, the stored copy incomplete when a store was pending,
and every relay de-energized, and a part without power takes no command but a cold restart (the model's choice,
notes/assumptions/7.md). -/
def Obligations.RecordWrittenOrCutShort : Prop :=
  ∀ s : State,
    (s.powered = true → exec .hourlyPersistenceWrite s = .next
      { s with
        hourCount := s.hourCount + 1
        ms := max s.ms ((s.hourCount + 1) * 3600000)
        record := if s.storePending then s.record
          else ⟨s.recordItems, crc16 (recordBytes s.recordItems), false⟩ }) ∧
    (∀ b : Bool, s.powered = true → exec (.powerLoss b) s = .next
      { s with
        powered := false
        relays := Table.fill 14 ⟨false, 0⟩
        stored := { s.stored with incomplete := s.stored.incomplete || s.storePending }
        record := { s.record with incomplete := s.record.incomplete || b } }) ∧
    ∀ c : Instr, s.powered = false → (∀ contacts straps, c ≠ .coldRestart contacts straps) → exec c s = .next s

/-! ## Seconds, contacts and relays -/

/-- R75, R98, R99, R113, R115, R118, R163: a second of the part's own timer, its blocks taken in any order, away from the
limits (the maximum run, the allowance's end, an exercise that begins): what each count becomes. Nothing else changes but
the EXERCISE_SKIPPED entry of an exercise that falls due and is barred. That the blocks stand in no order is
notes/assumptions/11.md, that run minutes are counted at each 60th second is notes/assumptions/37.md, and the free value
past the top of a minute count is notes/assumptions/43.md: the model's choices. -/
def Obligations.SecondCounted : Prop :=
  ∀ (s : State) (order : List TickBlock), s.powered = true → order.Nodup → order.length = 6 →
    (s.gen.state.onload = true → s.gen.state = .onloadUnloading ∨ s.gen.onload + 1 < s.setting 0x0408 * 60) →
    (s.mode.mode = .hold → s.gen.state.onload = true → s.mode.holdOnloadS + 1 < 60 ∨
      (2 ≤ s.mode.remaining ∧ (s.points.get pAllowanceOut).raw = false)) →
    let due := match s.clock with
      | some c => decide (c.next.second = 0 ∧ c.next.day = s.setting 0x0507 ∧ c.next.minute = s.setting 0x0508)
      | none => false
    (due = true → s.exerciseBar ≠ none) →
    let now := max s.ms ((s.tickCount + 1) * 1000)
    let onload := s.gen.state.onload
    let held := s.mode.mode == .hold && onload
    exec (.secondTick order) s = .next
      { s with
        tickCount := s.tickCount + 1
        ms := now
        gen := { s.gen with
          onload := if onload then s.gen.onload + 1 else s.gen.onload
          idling := if s.gen.state = .idling then s.gen.idling + 1 else s.gen.idling }
        shelf := { s.shelf with
          modules := Table.ofFn fun p => countModule (s.tickCount + 1) p (s.shelf.modules.get p)
          rotMinutes := if (s.tickCount + 1) % 60 = 0 ∧ s.someModule .online = true
            then minuteMore (s.tickCount + 1) 12 s.shelf.rotMinutes else s.shelf.rotMinutes }
        sched := { s.sched with
          loadedS := if onload then s.sched.loadedS + 1 else s.sched.loadedS
          runningS := if !onload && s.gen.state.fuelOn then s.sched.runningS + 1 else s.sched.runningS }
        mode := { s.mode with
          holdOnloadS := if held then (if s.mode.holdOnloadS + 1 < 60 then s.mode.holdOnloadS + 1 else 0)
            else s.mode.holdOnloadS
          remaining := if held ∧ 60 ≤ s.mode.holdOnloadS + 1 then s.mode.remaining - 1 else s.mode.remaining }
        charge := if s.charge.regime = .equalize then
          (if s.charge.eqSeconds + 1 < 60 then { s.charge with eqSeconds := s.charge.eqSeconds + 1 }
           else { s.charge with eqSeconds := 0, eqMinutes := s.charge.eqMinutes + 1 }) else s.charge
        clock := s.clock.map Clock.next
        log := if due then logAppend s.log (now / 1000 % 4294967296) .exerciseSkipped (s.setting 0x0507) .schedule
          (s.exerciseBar.map Int.ofNat) else s.log }

/-- R26: RELAYS ON and RELAYS OFF drive the AUX relays that the mask names, in either mode; a relay that has the drive
already keeps its stamp, and the reply has all 14 records. A payload of another length is refused BAD_LENGTH, a mask with
bit 14 or 15 BAD_SUBJECT, and a mask that names a relay of another owner NOT_OWNER with the lowest of them; then nothing
changes. -/
def Obligations.AuxRelaysDriven : Prop :=
  ∀ (s : State) (tag : Byte) (m : Nat) (p : List Byte), s.ready = true → m < 65536 →
    (p.length ≠ 2 →
      exec (.relaysOn tag p) s = .next (s.heard.answered 0x23#8 tag (.refuse .badLength 0)) ∧
      exec (.relaysOff tag p) s = .next (s.heard.answered 0x24#8 tag (.refuse .badLength 0))) ∧
    (16384 ≤ m →
      exec (.relaysOn tag (bytes2 m)) s = .next (s.heard.answered 0x23#8 tag (.refuse .badSubject 0)) ∧
      exec (.relaysOff tag (bytes2 m)) s = .next (s.heard.answered 0x24#8 tag (.refuse .badSubject 0))) ∧
    (m < 16384 → m % 4096 = 0 → ∀ on : Bool, ∃ R : Table Relay 14,
      exec (if on then .relaysOn tag (bytes2 m) else .relaysOff tag (bytes2 m)) s = .next
        (State.answered { s.heard with relays := R } (if on then 0x23#8 else 0x24#8) tag (.accept (.relays R))) ∧
      ∀ r : Fin 14, R.get r =
        if ((r = rAux1 ∧ maskNames m 12 = true) ∨ (r = rAux2 ∧ maskNames m 13 = true)) ∧ s.relayOn r ≠ on
        then ⟨on, s.siteSeconds⟩ else s.heard.relays.get r) ∧
    ∀ k : Nat, k < 12 → m < 16384 → maskNames m k = true → (∀ j, j < k → maskNames m j = false) →
      exec (.relaysOn tag (bytes2 m)) s = .next (s.heard.answered 0x23#8 tag (.refuse .notOwner (k + 1))) ∧
      exec (.relaysOff tag (bytes2 m)) s = .next (s.heard.answered 0x24#8 tag (.refuse .notOwner (k + 1)))

/-- R19, R17, R20, R116: an input change. A level that the debounced contact has already changes nothing. Otherwise the contact
takes the level, and when the active field changes by it, the changed flag is set and the stamp taken. What the input's
consumers do: DOOR, SMOKE and USER hand their points; FUEL_LOW forms the reserve, by the levels in force since the last
evaluation (R116, R117); HAND asserts or withdraws the claims of all five targets; an auxiliary input moves the feedback
check; an input without a consumer does nothing else. -/
def Obligations.InputChanges : Prop :=
  ∀ (s : State) (i : Fin 16) (closed : Bool), s.powered = true →
    let r := s.inputs.get i
    let a := s.activeWith i closed
    (r.contact = closed → exec (.inputChange i closed) s = .next s) ∧
    (r.contact ≠ closed → a = r.active → exec (.inputChange i closed) s = .next
      { s with inputs := s.inputs.set i { r with contact := closed, interval := none } }) ∧
    (r.contact ≠ closed → a ≠ r.active →
      let moved := s.inputs.set i
        { r with contact := closed, active := a, changed := true, stamp := s.siteSeconds, interval := none }
      ∃ t, exec (.inputChange i closed) s = .next t ∧ t.inputs = moved ∧ t.settings = s.settings ∧ t.ms = s.ms ∧
        t.meas = s.meas ∧ t.clock = s.clock ∧ t.mode = s.mode ∧ t.link = s.link ∧
        (i = iMainsBreakAux ∨ i = iGenMakeAux ∨ i.val = 15 → t = { s with inputs := moved }) ∧
        (∀ p, (i = iDoor ∧ p = pDoor) ∨ (i = iSmoke ∧ p = pSmoke) ∨ (i = iUser ∧ p = pUser) →
          (t.points.get p).raw = a ∧ t.otherRelaysAs s ∧ (∀ q, q ≠ p → t.points.get q = s.points.get q) ∧
          { t with points := s.points, relays := s.relays, log := s.log } = { s with inputs := moved }) ∧
        (i = iFuelLow →
          let levels := s.sched.levels
          let reserve := if s.sched.reserve then decide (s.sched.estimate < levels.reserve + levels.hyst) || a
            else decide (s.sched.estimate ≤ levels.reserve) || a
          t.sched = { s.sched with reserve := reserve } ∧
          (s.sched.evaluated = true → (t.points.get pFuelReserve).raw = reserve) ∧
          (s.sched.evaluated = false → t.points = s.points) ∧
          (∀ q, q ≠ pFuelReserve → t.points.get q = s.points.get q) ∧ t.otherRelaysAs s ∧
          { t with sched := s.sched, points := s.points, relays := s.relays, log := s.log } =
            { s with inputs := moved }) ∧
        (i = iHand → (t.points.get pHand).raw = a ∧ ∀ T : Fin 5,
          (t.targets.get T).hand = a ∧ (t.targets.get T).host = (s.targets.get T).host ∧
          (a = true → (s.targets.get T).thermal = false → (s.targets.get T).lvd = false →
            (t.targets.get T).drive = (s.targets.get T).drive)) ∧
        ∀ T : Fin 5, i = iAux T → s.occupied sTest = false →
          let agrees := a == ((s.targets.get T).drive == .closed)
          t = { s with inputs := moved, targets := match (s.targets.get T).check with
            | .window => s.targets
            | .agree => if agrees then s.targets
              else s.targets.set T { s.targets.get T with check := .disagree, timer := some ⟨s.ms, s.ms + 500⟩ }
            | _ => if agrees then s.targets.set T { s.targets.get T with check := .agree, timer := none }
              else s.targets })

/-- R19: contact samples. A sample at the debounced level ends an interval in progress; the first sample away from it
begins one; the 50th sample after that, all of them away from it, is the input change. 51 such samples in a row are
together the input change, 51 ms later. -/
def Obligations.ContactDebounced : Prop :=
  ∀ (s : State) (i : Fin 16) (closed : Bool), s.powered = true →
    let r := s.inputs.get i
    let sampled := fun (n : Nat) (k : Option Nat) =>
      { s with ms := max s.ms (r.samples + n), inputs := s.inputs.set i { r with samples := r.samples + n, interval := k } }
    (r.contact = closed → exec (.contactSample i closed) s = .next (sampled 1 none)) ∧
    (r.contact ≠ closed → r.interval = none → exec (.contactSample i closed) s = .next (sampled 1 (some 0))) ∧
    (∀ k, r.contact ≠ closed → r.interval = some k → k < 49 →
      exec (.contactSample i closed) s = .next (sampled 1 (some (k + 1)))) ∧
    (∀ k, r.contact ≠ closed → r.interval = some k → 49 ≤ k →
      exec (.contactSample i closed) s = exec (.inputChange i closed) (sampled 1 none)) ∧
    (r.contact ≠ closed → r.interval = none → s.pending = [] →
      Host.Core.run Sys2Proof.core 51 (s.withPending (List.replicate 51 (.contactSample i closed))) =
        exec (.inputChange i closed) (sampled 51 none))

/-! ## Contactors -/

/-- R128, R120, R129: CONTACTOR with HAND not active changes the HOST claim of one target and decides it: THERMAL and LVD
open it, HAND holds it, then HOST, then SERVICE decide. Only a change of drive moves the relay, starts the feedback check
and writes an entry; a decision that repeats the drive starts a running window afresh. A RELEASE with no HOST claim does
nothing (the model's choice, notes/assumptions/35.md). Nothing else changes, no discharge test being in flight. An unknown
action is refused RANGE, and with HAND active the request is refused LOCKED. -/
def Obligations.ContactorClaimed : Prop :=
  ∀ (s : State) (tag : Byte) (T : Fin 5) (x : Nat), s.ready = true → x < 256 →
    (2 < x → exec (.contactor tag [BitVec.ofNat 8 (T.val + 1), BitVec.ofNat 8 x]) s =
      .next (s.heard.answered 0x2A#8 tag (.refuse .range 0))) ∧
    (x ≤ 2 → s.active iHand = true → exec (.contactor tag [BitVec.ofNat 8 (T.val + 1), BitVec.ofNat 8 x]) s =
      .next (s.heard.answered 0x2A#8 tag (.refuse .locked 0))) ∧
    (x ≤ 2 → s.active iHand = false → s.occupied sTest = false →
      let c : Option Drive := if x = 0 then none else if x = 1 then some .opened else some .closed
      let r := s.targets.get T
      let drive := if r.thermal || r.lvd then .opened else if r.hand then r.drive else c.getD r.service
      let decider : Claimant := if r.thermal then .thermal else if r.lvd then .lvd else if r.hand then .hand
        else if c.isSome then .host else .service
      let window : Option Timer := some ⟨s.ms, s.ms + 500⟩
      let r' : Target :=
        if c = none ∧ r.host = none then r
        else if drive = r.drive then
          { r with host := c, decider := decider, timer := if r.check = .window then window else r.timer }
        else { r with host := c, decider := decider, drive := drive, check := .window, timer := window }
      exec (.contactor tag [BitVec.ofNat 8 (T.val + 1), BitVec.ofNat 8 x]) s = .next (State.answered
        { s.heard with
          targets := s.targets.set T r'
          relays := if r'.drive = r.drive then s.heard.relays else s.heard.relaysWith (rTarget T) (drive == .opened)
          log := if r'.drive = r.drive then s.heard.log else
            logAppend s.heard.log s.siteSeconds .contactor (T.val + 1) (if decider = .host then .host else .part)
              (some (if drive = .opened then (decider.priority : Int) else -(decider.priority : Int))) }
        0x2A#8 tag (.accept (.contactor T r' (s.active (iAux T))))))

/-- R129, R130: the feedback timer expires. In WINDOW with the auxiliary input agreeing the check is AGREE and nothing
else changes. Otherwise a fault is taken: FAULTED with the timer stopped, and CONTACTOR_FAULT for the target. A string
not yet marked is marked, its STRING_FAULT condition is true and its SERVICE claim says OPEN; a target without a
higher claim then opens, in a new window. -/
def Obligations.FeedbackDecides : Prop :=
  ∀ (s : State) (T : Fin 5) (x : Timer), s.powered = true → (s.targets.get T).timer = some x →
    let r := s.targets.get T
    let now : State := { s with ms := max s.ms x.due }
    (r.check = .window → s.agrees T = true → exec (.feedbackCheckTimerExpiry T) s = .next
      { now with targets := s.targets.set T { r with check := .agree, timer := none } }) ∧
    ((r.check = .window ∧ s.agrees T = false) ∨ r.check = .disagree →
      ∃ t, exec (.feedbackCheckTimerExpiry T) s = .next t ∧
        t.points.get pContactorFault = now.latchedPoint pContactorFault ∧
        (∀ u, u ≠ T → t.targets.get u = s.targets.get u) ∧
        t.settings = s.settings ∧ t.inputs = s.inputs ∧ t.meas = s.meas ∧ t.gen = s.gen ∧ t.mains = s.mains ∧
        (T = tNeld →
          t.targets = s.targets.set T { r with check := .faulted, timer := none } ∧ t.otherRelaysAs s ∧
          (∀ p, p ≠ pContactorFault → t.points.get p = s.points.get p) ∧
          (t.log = if s.masked pContactorFault then s.log
            else logAppend s.log now.siteSeconds .alarmRaised 39 .part (some 5)) ∧
          { t with targets := s.targets, points := s.points, relays := s.relays, log := s.log } = now) ∧
        ∀ n : Fin 4, T = stringTarget n → (s.strings.get n).fault = false → r.service = .closed →
          (t.strings.get n).fault = true ∧ (t.points.get (pStringFault n)).raw = true ∧
          (t.targets.get T).service = .opened ∧ (t.targets.get T).host = r.host ∧
          (t.targets.get T).drive = (if r.thermal || r.lvd then .opened else if r.hand then r.drive
            else r.host.getD .opened) ∧
          (r.thermal = false → r.lvd = false → r.hand = false → r.host = none → r.drive = .closed →
            (t.targets.get T).decider = .service ∧ (t.targets.get T).check = .window ∧
            (t.targets.get T).timer = some ⟨now.ms, now.ms + 500⟩ ∧ t.relayOn (rTarget T) = true))

/-! ## Alarm points -/

/-- R151, R148: ACKNOWLEDGE, with no block acting on the points named: each named point that is RAISED is HELD, each that
is LATCHED is NORMAL, with their entries of origin HOST in id order, and no other point changes. The reply names the
points that changed and those that stand RAISED or LATCHED after it. Nothing else changes but the severity relays. -/
def Obligations.PointsAcknowledged : Prop :=
  ∀ (s : State) (tag : Byte) (p : List Byte), s.ready = true → p.length = 6 → maskAt p < 2199023255552 →
    (∀ q ∈ namedPoints (maskAt p), s.unread q = true) →
    let named := namedPoints (maskAt p)
    let old := fun q => (s.heard.points.get q).state
    ∃ t, exec (.acknowledge tag p) s = .next t ∧
      (∀ q, q ∉ named → t.points.get q = s.heard.points.get q) ∧
      (∀ q ∈ named, t.points.get q =
        if old q = .raised then { s.heard.points.get q with state := .held, escalated := false, timer := none }
        else if old q = .latched then { s.heard.points.get q with state := .normal, escalated := false, timer := none }
        else s.heard.points.get q) ∧
      t.log = named.foldl (fun l q =>
        if old q = .raised then logAppend l s.siteSeconds .alarmHeld (q.val + 1) .host none
        else if old q = .latched then logAppend l s.siteSeconds .alarmNormal (q.val + 1) .host none
        else l) s.heard.log ∧
      t.link = { s.heard.link with reply := some (.accept 0x27#8 tag (.points
        (named.filter fun q => old q == .raised || old q == .latched)
        ((indices 41).filter fun q => (old q == .raised || old q == .latched) && !named.contains q))) } ∧
      t.otherRelaysAs s.heard ∧
      { t with points := s.heard.points, relays := s.heard.relays, log := s.heard.log, link := s.heard.link } = s.heard

/-- R152, R148, R131: CLEAR, with no block acting on the points named. The proof marker of each goes; a point whose
condition is then false is NORMAL, with its entry of origin HOST. A string's fault marker whose contactor agrees is
cleared too, with its condition, and SERVICE closes the string again when no higher claim stands. -/
def Obligations.PointsCleared : Prop :=
  ∀ (s : State) (tag : Byte) (p : List Byte), s.ready = true → p.length = 6 → maskAt p < 2199023255552 →
    (∀ q ∈ namedPoints (maskAt p), s.unread q = true) →
    let named := namedPoints (maskAt p)
    let old := fun q => s.heard.points.get q
    ((∀ n : Fin 4, pStringFault n ∈ named → (s.strings.get n).fault = false ∨ s.agrees (stringTarget n) = false) →
      ∃ t, exec (.clearPoints tag p) s = .next t ∧
        (∀ q, q ∉ named → t.points.get q = old q) ∧
        (∀ q ∈ named, t.points.get q =
          if (old q).raw ∨ (old q).state = .normal then { old q with proof := false }
          else { old q with proof := false, state := .normal, escalated := false, timer := none }) ∧
        t.log = named.foldl (fun l q =>
          if (old q).raw ∨ (old q).state = .normal then l
          else logAppend l s.siteSeconds .alarmNormal (q.val + 1) .host none) s.heard.log ∧
        t.link = { s.heard.link with reply := some (.accept 0x28#8 tag (.points
          (named.filter fun q => !(old q).raw && (old q).state != .normal)
          ((indices 41).filter fun q => ((old q).state == .raised || (old q).state == .latched) &&
            (!named.contains q || (old q).raw)))) } ∧
        t.otherRelaysAs s.heard ∧
        { t with points := s.heard.points, relays := s.heard.relays, log := s.heard.log, link := s.heard.link } = s.heard) ∧
    ∀ n : Fin 4, named = [pStringFault n] → (s.strings.get n).fault = true → s.agrees (stringTarget n) = true →
      s.occupied sTest = false →
      ∃ t, exec (.clearPoints tag p) s = .next t ∧
        t.strings = s.strings.set n { s.strings.get n with fault := false } ∧
        ((t.points.get (pStringFault n)).state = .normal ∧ (t.points.get (pStringFault n)).raw = false ∧
          (t.points.get (pStringFault n)).proof = false) ∧
        (t.targets.get (stringTarget n)).service = (if s.enrolled n then .closed else .opened) ∧
        (∀ u, u ≠ stringTarget n → t.targets.get u = s.targets.get u) ∧
        (let r := s.targets.get (stringTarget n)
         s.enrolled n = true → r.service = .opened → r.drive = .opened → r.thermal = false → r.lvd = false →
          r.hand = false → r.host = none →
          (t.targets.get (stringTarget n)).drive = .closed ∧ t.relayOn (rTarget (stringTarget n)) = false)

/-- R104, R123: what ACKNOWLEDGE and CLEAR release. In LOCKOUT, an ACKNOWLEDGE or a CLEAR that makes the three GEN_FAIL
points NORMAL returns the controller to OFF, without causes and without its retry timer, and an evaluation is made (the
grid being qualified); while one of them that is not named stands elsewhere the lockout stands. An ACKNOWLEDGE of a
standing STRING_THERMAL point withdraws the THERMAL claim of a string that has cooled, the point is NORMAL, and the claims
that remain decide the string; of a string that has not cooled the claim stands, the point HELD. A CLEAR withdraws no
claim while its condition is true. -/
def Obligations.HeldLocksReleased : Prop :=
  ∀ (s : State) (tag : Byte) (p : List Byte) (clear : Bool), s.ready = true → p.length = 6 →
    maskAt p < 2199023255552 →
    let named := namedPoints (maskAt p)
    let c : Instr := if clear then .clearPoints tag p else .acknowledge tag p
    let causes : List (Fin 41) := [pGenFailStart, pGenFailRun, pGenFailStop]
    let old := fun q => s.heard.points.get q
    (s.gen.state = .lockout → s.running = false → s.mains.qualified = true → (∀ q ∈ named, q ∈ causes) →
      (∀ q ∈ causes, ((old q).state = .normal ∨ (old q).state = .latched) ∧ (old q).raw = false) →
      ∃ t, exec c s = .next t ∧
        ((∃ q ∈ named, (old q).state = .latched) → (∀ q ∈ causes, q ∈ named ∨ (old q).state = .normal) →
          t.gen = { s.gen with
            state := .off, timer := none, window := none, exercise := none, causes := ⟨false, false, false⟩
            retry := none } ∧
          (∀ q ∈ causes, (t.points.get q).state = .normal) ∧ t.sched.lastEval = s.siteSeconds ∧
          t.sched.outcome = .notConsidered 3 ∧
          t.besideEvaluation = { s.heard with gen := t.gen, link := t.link }.besideEvaluation) ∧
        ((∃ q ∈ causes, q ∉ named ∧ (old q).state = .latched) →
          t.gen = s.gen ∧ ∀ q ∈ named, (t.points.get q).state = .normal)) ∧
    ∀ n : Fin 4, named = [pStringThermal n] →
      let T := stringTarget n
      let r := s.targets.get T
      let cooled := match s.reads (cStrT n) with | some v => decide (v ≤ (s.setting 0x0607 : Int)) | none => false
      r.thermal = true → (old (pStringThermal n)).raw = true → (old (pStringThermal n)).state = .raised →
      s.masked (pStringThermal n) = false → s.occupied sTest = false →
      ∃ t, exec c s = .next t ∧ (∀ U, U ≠ T → t.targets.get U = s.targets.get U) ∧
        (clear = true → t.targets = s.targets ∧ (t.points.get (pStringThermal n)).state = .raised) ∧
        (clear = false → cooled = false →
          t.targets = s.targets ∧ (t.points.get (pStringThermal n)).state = .held) ∧
        (clear = false → cooled = true →
          (t.targets.get T).thermal = false ∧ (t.points.get (pStringThermal n)).raw = false ∧
          ((old (pStringThermal n)).proof = false → (t.points.get (pStringThermal n)).state = .normal) ∧
          (t.targets.get T).drive = (if r.lvd then .opened else if r.hand then r.drive else r.host.getD r.service))

/-- R153, R148: PROVE. An event point takes a momentary condition of origin PROVE. Another point has its proof marker set;
when its condition was false before, that is an activation, and a NORMAL or LATCHED point that is not masked is RAISED.
Another length is refused BAD_LENGTH and another id BAD_SUBJECT. Nothing else changes but the severity relays. -/
def Obligations.PointProved : Prop :=
  ∀ (s : State) (tag : Byte) (p : Fin 41) (payload : List Byte) (v : Nat), s.ready = true →
    (payload.length ≠ 1 →
      exec (.prove tag payload) s = .next (s.heard.answered 0x29#8 tag (.refuse .badLength 0))) ∧
    (v < 256 → v = 0 ∨ 41 < v →
      exec (.prove tag [BitVec.ofNat 8 v]) s = .next (s.heard.answered 0x29#8 tag (.refuse .badSubject 0))) ∧
    let old := s.heard.points.get p
    let rises := !(old.raw || old.proof)
    let moves := !s.masked p && (isEventPoint p || (rises && (old.state == .normal || old.state == .latched)))
    ∃ t, exec (.prove tag [BitVec.ofNat 8 (p.val + 1)]) s = .next t ∧
      (∀ q, q ≠ p → t.points.get q = s.heard.points.get q) ∧
      (isEventPoint p = true → t.points.get p = s.heard.latchedPoint p) ∧
      (isEventPoint p = false → rises = false → t.points.get p = { old with proof := true }) ∧
      (isEventPoint p = false → rises = true →
        (t.points.get p).proof = true ∧ (t.points.get p).raw = old.raw ∧
        (t.points.get p).count = min 255 (old.count + 1) ∧ (t.points.get p).last = s.siteSeconds ∧
        (t.points.get p).first = (if old.count = 0 then s.siteSeconds else old.first) ∧
        (t.points.get p).state = (if moves then .raised else old.state) ∧
        (t.points.get p).timer = if moves then s.escalationTimer p else old.timer) ∧
      (t.log = if moves then logAppend s.heard.log s.siteSeconds .alarmRaised (p.val + 1) .prove (some 0)
        else s.heard.log) ∧
      t.otherRelaysAs s.heard ∧
      (∃ d : ReplyData, t.link = { s.heard.link with reply := some (.accept 0x29#8 tag d) }) ∧
      { t with points := s.heard.points, relays := s.heard.relays, log := s.heard.log, link := s.heard.link } = s.heard

/-- R150, R154: the escalation of a point. When its timer expires the point is escalated and its timer stops. A write of
escalate_h moves the expiry of every running timer to the new figure after the entry to RAISED, is the expiry of those
whose moment has passed, and at 0 ends every timer and every escalation. A write of a severity ends the point's escalation
and starts its timer afresh if it stands RAISED and is now MAJOR. The severity relays are formed: an escalated MAJOR point
counts as CRITICAL. Nothing else changes. -/
def Obligations.EscalationFollows : Prop :=
  let shown := fun t : State => t.relaysFormed = true → t.relayOn rAlmCrit = !t.severityStands .critical ∧
    t.relayOn rAlmMaj = !t.severityStands .major ∧ t.relayOn rAlmMin = !t.severityStands .minor
  (∀ (s : State) (p : Fin 41) (x : Timer), s.powered = true → (s.points.get p).timer = some x →
    ∃ t, exec (.escalationTimerExpiry p) s = .next t ∧
      t.points = s.points.set p { s.points.get p with escalated := true, timer := none } ∧
      t.otherRelaysAs s ∧ shown t ∧
      { t with points := s.points, relays := s.relays } = { s with ms := max s.ms x.due }) ∧
  ∀ (s : State) (tag : Byte) (v : Nat), s.ready = true → s.storePending = false → settingsWf s.settings = true →
    v < 65536 →
    let beside := fun t : State => t.otherRelaysAs s.heard ∧ shown t ∧
      { t with settings := s.settings, points := s.heard.points, relays := s.heard.relays, link := s.heard.link } = s.heard
    (min v 72 ≠ s.setting 0x07C0 → ∃ t, exec (.writeSetting tag (bytes2 0x07C0 ++ bytes2 v)) s = .next t ∧
      (∀ p : Fin 41, t.points.get p =
        let pt := s.heard.points.get p
        if v = 0 then { pt with escalated := false, timer := none }
        else match pt.timer with
          | none => pt
          | some x =>
            if pt.raisedAt + min v 72 * 3600000 ≤ s.ms then { pt with escalated := true, timer := none }
            else { pt with timer := some ⟨x.start, pt.raisedAt + min v 72 * 3600000⟩ }) ∧ beside t) ∧
    ∀ p : Fin 41, min v 3 ≠ s.setting (0x0701 + p.val) →
      ∃ t, exec (.writeSetting tag (bytes2 (0x0701 + p.val) ++ bytes2 v)) s = .next t ∧
        (let pt := s.heard.points.get p
         t.points = s.heard.points.set p { pt with
          escalated := false
          timer := if pt.state = .raised ∧ v = 1 ∧ s.setting 0x07C0 ≠ 0
            then some ⟨s.ms, s.ms + s.setting 0x07C0 * 3600000⟩ else none }) ∧ beside t

/-! ## Operations -/

/-- R135, R112, R95, R93: an accepted BEGIN of a RUN or an EXERCISE from OFF. The argument is taken by its range, with
0 replaced; slot GENERATOR holds the new record, the controller is in PRESTART with its counts at 0, FUEL_RUN is
energized, and the reply has the values taken and the record. With prestart_s 0 the first crank attempt begins at
once, or the warm-up when running is detected already (with warmup_s 0 in its check window; both generator readings
TRUE in it lead on). The model's choices: that a 0 replaced by the default answers CLAMPED (notes/assumptions/42.md),
and that an exercise of 0 takes exercise_min as the setting stands (notes/assumptions/63.md).
The evaluation that the change of state makes may begin an equalize or a rotation; nothing beside it changes. -/
def Obligations.RunBegun : Prop :=
  ∀ (s : State) (tag : Byte) (exercise : Bool) (m : Nat), s.ready = true → m < 65536 → s.gen.state = .off →
    s.occupied sGenerator = false → s.occupied sTest = false →
    (s.running = true → s.setting 0x0400 = 0 → s.setting 0x0404 = 0 → s.genWatches = false) →
    let taken := if exercise then (if m = 0 then s.setting 0x0509 else max 5 (min 60 m))
      else if m = 0 then 0 else max 10 (min 720 m)
    let r : OpRec :=
      { state := .running, kind := if exercise then .exercise else .run, origin := .host,
        reason := if exercise then none else some .host, modeAtBegin := .attended, beginStamp := s.siteSeconds,
        args := [taken], termination := none, cause := none, doneStamp := 0, result := none, unread := false }
    let first : Generator :=
      { s.gen with
        state := .prestart, attempt := 0, onload := 0, idling := 0, stop := none, fuelStart := s.sched.estimate
        kept := none, window := none, exercise := none
        timer := some ⟨s.ms, s.ms + s.setting 0x0400 * 1000⟩ }
    let gen : Generator := if s.setting 0x0400 ≠ 0 then first
      else if s.running = false then
        { first with state := .crank, attempt := 1, timer := some ⟨s.ms, s.ms + s.setting 0x0401 * 1000⟩ }
      else if s.setting 0x0404 = 0 then
        { first with state := .warmup, timer := none, window := some ⟨s.ms, s.ms + 30000⟩ }
      else { first with state := .warmup, timer := some ⟨s.ms, s.ms + s.setting 0x0404 * 1000⟩ }
    ∃ t, exec (.beginRequest tag (0#8 :: (if exercise then 2#8 else 1#8) :: bytes2 m)) s = .next t ∧
      t.slots.get sGenerator = some r ∧ t.slots.get sTest = s.slots.get sTest ∧ t.gen = gen ∧
      t.link = { s.heard.link with reply := some (.accept 0x25#8 tag (.begun (taken != m) [taken]
        ⟨sGenerator, some r, some (.generator gen.state gen.attempt 0 0)⟩)) } ∧
      t.relayOn rFuelRun = true ∧ t.relayOn rCrank = (gen.state == .crank) ∧
      (∀ q : Fin 14, q ≠ rFuelRun → q ≠ rCrank → q ≠ rAlmCrit → q ≠ rAlmMaj → q ≠ rAlmMin →
        t.relays.get q = s.heard.relays.get q) ∧
      t.besideEvaluation = { s.heard with gen := gen, link := t.link }.besideEvaluation

/-- R135, R63, R139, R140, R86: an accepted BEGIN of an EQUALIZE, a DISCHARGE_TEST or a ROTATE, each with its begin
conditions met, and what it changes. A ROTATE with no pair worth rotating is DONE at once with NO_CHANGE (whose result
shows no minutes: the model's choice, notes/assumptions/26.md); otherwise its incoming module is commanded on. That a 0
replaced by the default answers CLAMPED is the model's choice, notes/assumptions/42.md. -/
def Obligations.ChargeTestAndShelfBegun : Prop :=
  ∀ (s : State) (tag : Byte), s.ready = true →
    let fresh := fun (k : OpKind) (args : List Nat) => ({
      state := .running, kind := k, origin := .host, reason := none, modeAtBegin := .attended,
      beginStamp := s.siteSeconds, args := args, termination := none, cause := none, doneStamp := 0, result := none,
      unread := false } : OpRec)
    let entry := fun (k n : Nat) => logAppend s.heard.log s.siteSeconds .opBegin k .host (some (n : Int))
    (∀ h : Nat, h < 65536 → s.occupied sCharge = false → s.occupied sTest = false → s.equalizeBar = none →
      let hours := if h = 0 then s.setting 0x0209 else max 1 (min 12 h)
      let charge : RegimeRec :=
        { s.charge with
          regime := .equalize, entered := s.siteSeconds, bulkHeld := none, absorb := none
          eqTimer := some ⟨s.ms, s.ms + hours * 3600 * 1000⟩, eqMinutes := 0, eqSeconds := 0 }
      exec (.beginRequest tag (1#8 :: 3#8 :: bytes2 h)) s = .next (State.answered
        { s.heard with
          slots := s.slots.set sCharge (some (fresh .equalize [hours]))
          charge := { charge with setpoint := formedSetpoint s.settings charge }
          log := logAppend (entry 1 3) s.siteSeconds .regime 4 .part (some 8) } 0x25#8 tag
        (.accept (.begun (hours != h) [hours] ⟨sCharge, some (fresh .equalize [hours]), some (.equalize 0)⟩)))) ∧
    (∀ a b c : Nat, a < 65536 → b < 65536 → c < 65536 → s.occupied sTest = false → s.occupied sCharge = false →
      s.heard.testBar = none →
      let v := s.setting 0x0203
      let taken := [if a = 0 then 180 else max 10 (min 600 a), if b = 0 then 30 else max 10 (min 80 b),
        max (v + 50) (min (max 5000 (v + 50)) (if c = 0 then 4700 else c))]
      let charge : RegimeRec :=
        { s.charge with regime := .test, entered := s.siteSeconds, bulkHeld := none, absorb := none }
      exec (.beginRequest tag (2#8 :: 4#8 :: (bytes2 a ++ bytes2 b ++ bytes2 c))) s = .next (State.answered
        { s.heard with
          slots := s.slots.set sTest (some (fresh .dischargeTest taken))
          charge := { charge with setpoint := formedSetpoint s.settings charge }
          test := { phase := .lowering, step := 0, setpoint := s.charge.setpoint, testV := (v : Int),
                    s0 := s.charge.setpoint, minutes := 0, lowest := s.reads cBusV, endCount := none, lowCount := none,
                    members := s.serviceSet.map fun n => ⟨n, stringSetting s.settings n 1 * 360000, 0, 0, 0, none⟩,
                    stepTimer := some ⟨s.ms, s.ms + 3750⟩, minuteTimer := none, limitTimer := none }
          log := logAppend (entry 2 4) s.siteSeconds .regime 5 .part (some 10) } 0x25#8 tag
        (.accept (.begun (taken != [a, b, c]) taken
          ⟨sTest, some (fresh .dischargeTest taken), some (.lowering 0 s.charge.setpoint)⟩)))) ∧
    (s.occupied sShelf = false →
      ((s.mostWornOnline = none ∨ s.leastWornStandby = none ∨
          ∃ o i, s.mostWornOnline = some o ∧ s.leastWornStandby = some i ∧ s.worthRotating i o = false) →
        ∃ r, r = { fresh .rotate [] with
            state := .done, termination := some .completed, cause := some .none, doneStamp := s.siteSeconds
            result := some (.rotate (some .noChange) none [] none none), unread := true } ∧
        exec (.beginRequest tag [3#8, 5#8]) s = .next (State.answered
          { s.heard with
            slots := s.slots.set sShelf (some r)
            shelf := { s.shelf with rotMinutes := 0 }
            log := logAppend (entry 3 5) s.siteSeconds .opEnd 3 .part (some 100) } 0x25#8 tag
          (.accept (.begun false [] ⟨sShelf, some r, none⟩)))) ∧
      ∀ o i, s.mostWornOnline = some o → s.leastWornStandby = some i → s.worthRotating i o = true →
        ∃ t, exec (.beginRequest tag [3#8, 5#8]) s = .next t ∧
          t.slots = s.slots.set sShelf (some (fresh .rotate [])) ∧
          t.shelf = { s.shelf with
            rotMinutes := 0
            rotation := some ⟨o, i, [i], Table.ofFn s.runMinutes⟩
            modules := s.shelf.modules.set i { s.shelf.modules.get i with
              state := .starting, fault := 0, good := 0, startTimer := some ⟨s.ms, s.ms + 10000⟩ } } ∧
          t.otherRelaysAs s.heard ∧ (∀ p, p ≠ pRectFail → p ≠ pRectComms → t.points.get p = s.heard.points.get p) ∧
          t.link = { s.heard.link with reply := some (.accept 0x25#8 tag (.begun false []
            ⟨sShelf, some (fresh .rotate []), some (.rotate (some o) (some i))⟩)) } ∧
          { t with slots := s.slots, shelf := s.shelf, relays := s.heard.relays, points := s.heard.points,
                   log := s.heard.log, link := s.heard.link } = s.heard)

/-- R135: the refusals of a BEGIN that names a slot, in their order: RANGE for a kind that the slot does not admit,
BAD_LENGTH for the wrong number of arguments, BUSY 1 for an occupied slot, BUSY 2 for the slot that bars it, and STATE
with the first begin condition that fails. Nothing else changes. -/
def Obligations.BeginRefused : Prop :=
  ∀ (s : State) (tag : Byte) (k : Fin 4) (code : Byte) (rest : List Byte), s.ready = true →
    let refuse := fun (r : RefusalReason) (d : Nat) =>
      exec (.beginRequest tag (BitVec.ofNat 8 k.val :: code :: rest)) s =
        .next (s.heard.answered 0x25#8 tag (.refuse r d))
    (kindOf code.toNat = none → refuse .range 0) ∧
    ∀ kind, kindOf code.toNat = some kind →
      (kind.slot ≠ k → refuse .range 0) ∧
      (kind.slot = k → rest.length ≠ 2 * kind.argCount → refuse .badLength 0) ∧
      (kind.slot = k → rest.length = 2 * kind.argCount →
        (s.occupied k = true → refuse .busy 1) ∧
        (s.occupied k = false →
          ((k = sCharge ∧ s.occupied sTest = true) ∨ (k = sTest ∧ s.occupied sCharge = true) → refuse .busy 2) ∧
          (¬ (k = sCharge ∧ s.occupied sTest = true) → ¬ (k = sTest ∧ s.occupied sCharge = true) →
            ∀ d, s.heard.beginBar kind = some d → refuse .state d)))

/-- R136, R65, R87, R101, R143, R144: END. An empty or DONE slot is refused STATE 1, a STOPPING one STATE 2. A running
equalize and a rotation end STOPPED at once, and so does a discharge test in LOWERING: its timers stop, the regime is
BULK, or NO_SOURCE without a source, and every figure of its strings shows 0. A test in DISCHARGING and a run in
ONLOAD become STOPPING, the run's load being ramped down; an END of a scheduled RUN sets the start latch (R110). That
an equalize's REGIME entry stands before its OP_END entry is the model's choice, notes/assumptions/45.md. -/
def Obligations.OperationEnded : Prop :=
  ∀ (s : State) (tag : Byte) (k : Fin 4), s.ready = true →
    let exec' := exec (.endRequest tag [BitVec.ofNat 8 k.val]) s
    (s.occupied k = false → exec' = .next (s.heard.answered 0x26#8 tag (.refuse .state 1))) ∧
    (s.occupied k = true → s.slotRunning k = false →
      exec' = .next (s.heard.answered 0x26#8 tag (.refuse .state 2))) ∧
    ∀ r, s.slots.get k = some r → r.state = .running →
      let ended := fun result => { r with
        state := .done, termination := some .stopped, cause := some .none, doneStamp := s.siteSeconds
        result := some result, unread := true }
      let stopping := { r with state := .stopping, termination := some .stopped, cause := some .none }
      let reply := fun (x : OpRec) (p : Option Progress) => Answer.accept (.operation ⟨k, some x, p⟩)
      (k = sCharge →
        let x := ended (.equalize s.charge.eqMinutes)
        let charge : RegimeRec := { s.charge with
          regime := .float, entered := s.siteSeconds, bulkHeld := none, absorb := none }
        exec' = .next (State.answered { s.heard with
          slots := s.slots.set k (some x)
          charge := { charge with
            setpoint := formedSetpoint s.settings charge, eqTimer := none, eqMinutes := 0, eqSeconds := 0
            eqHoldoff := 86400 }
          log := logAppend (logAppend s.heard.log s.siteSeconds .regime 3 .part (some 9)) s.siteSeconds .opEnd 1 .host
            (some 200) } 0x26#8 tag (reply x none))) ∧
      (k = sShelf → ∀ q, s.shelf.rotation = some q →
        let x := ended (.rotate none (some q.outgoing) q.tried (some (q.minutes.get q.outgoing)) (some (q.minutes.get q.incoming)))
        exec' = .next (State.answered { s.heard with
          slots := s.slots.set k (some x)
          shelf := { s.shelf with rotation := none }
          log := logAppend s.heard.log s.siteSeconds .opEnd 3 .host (some 200) } 0x26#8 tag (reply x none))) ∧
      (k = sTest → s.test.phase = .discharging → ∃ t, exec' = .next t ∧
        t = State.answered { s.heard with slots := s.slots.set k (some stopping) } 0x26#8 tag
          (reply stopping (some (s.progress r.kind)))) ∧
      (k = sTest → s.test.phase = .lowering →
        let x := ended (.test none .lowering s.test.minutes s.test.lowest
          (s.test.members.map fun m => ⟨m.index, 0, some 0, 0, 0⟩))
        ∃ t, exec' = .next t ∧ t.slots = s.slots.set k (some x) ∧
          t.test = { s.test with stepTimer := none, minuteTimer := none, limitTimer := none } ∧
          t.charge.regime = (if s.sourcePresent then .bulk else .noSource) ∧
          (∀ n : Fin 4, t.strings.get n = { s.strings.get n with
            test := if s.testMember n then some ⟨0, some 0, 0, .stopped, s.siteSeconds⟩ else (s.strings.get n).test }) ∧
          t.link = { s.heard.link with reply := some (.accept 0x26#8 tag (.operation ⟨k, some x, none⟩)) } ∧
          { t with slots := s.slots, test := s.test, charge := s.charge, strings := s.strings, log := s.heard.log,
                   link := s.heard.link } = s.heard) ∧
      (k = sGenerator → s.gen.state = .onloadRunning → s.gen.stop = none →
        ∃ t, exec' = .next t ∧ t.slots = s.slots.set k (some stopping) ∧
          t.gen = { s.gen with state := .onloadUnloading, stop := some ⟨.endByHost, .stopped, .none⟩ } ∧
          t.sched = { s.sched with latch := s.sched.latch || (r.origin == .schedule && r.kind == .run) } ∧
          t.shelf = { s.shelf with
            ramp := if s.setting 0x0405 * 1000 / 16 = 0 then ⟨.unload, s.shelf.lTot, 0, 16, 0, none⟩
              else ⟨.unload, s.shelf.lTot, 0, 0, s.setting 0x0405 * 1000 / 16,
                some ⟨s.ms, s.ms + s.setting 0x0405 * 1000 / 16⟩⟩ } ∧
          t.log = logAppend s.heard.log s.siteSeconds .genState 8 .part (some 6) ∧
          { t with slots := s.slots, gen := s.gen, sched := s.sched, shelf := s.shelf, log := s.heard.log,
                   link := s.heard.link } = s.heard)

/-- R136, R101, R102, R105: END of a run before it is on load, or in the transfer to it, no stop being under way. In
PRESTART, CRANK, REST and WARMUP the fuel is cut: with running detected the controller is in RUNDOWN towards OFF;
otherwise it is in OFF, and the record DONE, STOPPED by END with its figures (the grid being qualified, so that no
other run starts). In IDLING the cool-down begins, which with cooldown_s 0 is the rundown at once; in ONLOAD before
the generator feed is made the transfer is abandoned, the mains feed made at once, and the cool-down begins; with the
feed made the run is unloaded from its walk-in too. In these the slot is STOPPING. (The record's fuel_used is formed
before the evaluation at OFF: the model's choice, notes/assumptions/60.md.) -/
def Obligations.RunStoppedByEnd : Prop :=
  ∀ (s : State) (tag : Byte) (r : OpRec), s.ready = true → s.slots.get sGenerator = some r → r.state = .running →
    s.gen.stop = none →
    let stop : Stop := ⟨.endByHost, .stopped, .none⟩
    let stopping := { r with state := .stopping, termination := some .stopped, cause := some .none }
    let entered := fun (st : GenState) (n : Nat) => { s.gen with
      state := st, timer := some ⟨s.ms, s.ms + n * 1000⟩, window := none, exercise := none, stop := some stop }
    let cooling : Generator := if s.setting 0x0406 = 0 then { entered .rundown 60 with target := .off }
      else entered .cooldown (s.setting 0x0406)
    let beside := fun t : State =>
      t.besideEvaluation = { s.heard with gen := t.gen, link := t.link }.besideEvaluation
    ∃ t, exec (.endRequest tag [BitVec.ofNat 8 sGenerator.val]) s = .next t ∧
      (s.gen.state = .prestart ∨ s.gen.state = .crank ∨ s.gen.state = .rest ∨ s.gen.state = .warmup →
        (s.running = true →
          t.gen = { entered .rundown 60 with target := .off } ∧ t.slots.get sGenerator = some stopping ∧
          t.relayOn rFuelRun = false ∧ t.relayOn rCrank = false ∧ beside t) ∧
        (s.running = false → s.mains.qualified = true →
          t.gen = { s.gen with
            state := .off, timer := none, window := none, exercise := none, stop := none, kept := none } ∧
          (s.gen.kept = none → t.slots.get sGenerator = some { stopping with
            state := .done, doneStamp := s.siteSeconds, unread := true
            result := some (.generator (s.gen.onload / 60) (s.gen.idling / 60) s.gen.attempt
              (s.gen.fuelStart - s.sched.estimate) r.reason (some .endByHost)) }) ∧
          t.relayOn rFuelRun = false ∧ t.relayOn rCrank = false ∧ beside t)) ∧
      (s.gen.state = .idling → s.running = true → s.faultInput = false →
        t.gen = cooling ∧ t.slots.get sGenerator = some stopping ∧
        t.relayOn rFuelRun = decide (s.setting 0x0406 ≠ 0) ∧ beside t) ∧
      (s.gen.state = .onloadWalkin → s.mains.changeover = .toGen → s.running = true → s.faultInput = false →
        t.gen = cooling ∧ t.slots.get sGenerator = some stopping ∧
        t.mains = { s.mains with
          changeover := .mainsFeed, gapTimer := none, source := if s.mains.qualified then .grid else .none } ∧
        t.relayOn rMainsBreak = false ∧ t.relayOn rGenMake = false ∧
        t.relayOn rFuelRun = decide (s.setting 0x0406 ≠ 0)) ∧
      (s.gen.state = .onloadWalkin → s.mains.changeover ≠ .toGen →
        t.gen = { s.gen with state := .onloadUnloading, stop := some stop } ∧
        t.slots.get sGenerator = some stopping ∧ t.shelf.ramp.kind = .unload ∧ t.shelf.ramp.l0 = s.shelf.lTot ∧
        t.relays = s.heard.relays)

/-! ## Charge regime, the discharge test and strings -/

/-- R55, R57, R65: the absorb timer makes the regime FLOAT and gives ABSORB_TIMEOUT its momentary condition, with the
lowest string in service that is not full. The equalize timer ends the equalize COMPLETED with its hours in minutes,
and eq_elapsed begins again. That the REGIME entry stands first is the model's choice, notes/assumptions/45.md and
64.md. -/
def Obligations.RegimeTimersExpire : Prop :=
  ∀ (s : State) (x : Timer), s.powered = true →
    let now : State := { s with ms := max s.ms x.due }
    let floating : RegimeRec :=
      { s.charge with regime := .float, entered := now.siteSeconds, bulkHeld := none, absorb := none }
    let charge := { floating with setpoint := formedSetpoint s.settings floating }
    (s.charge.absorb = some x → ∃ t, exec .absorbTimerExpiry s = .next t ∧ t.charge = charge ∧
      t.points = s.points.set pAbsorbTimeout (now.latchedPoint pAbsorbTimeout) ∧ t.otherRelaysAs s ∧
      (let entered := logAppend s.log now.siteSeconds .regime 3 .part (some 6)
       t.log = if s.masked pAbsorbTimeout then entered
        else logAppend entered now.siteSeconds .alarmRaised 29 .part (some (s.lowestNotFull : Int))) ∧
      { t with charge := s.charge, points := s.points, relays := s.relays, log := s.log } = now) ∧
    ∀ r h, s.charge.eqTimer = some x → s.slots.get sCharge = some r → r.occupied = true → r.args = [h] →
      exec .equalizeTimerExpiry s = .next { now with
        charge := { charge with eqTimer := none, eqMinutes := 0, eqSeconds := 0, eqElapsed := 0 }
        slots := s.slots.set sCharge (some { r with
          state := .done, termination := some .completed, cause := some .none, doneStamp := now.siteSeconds
          result := some (.equalize (h * 60)), unread := true })
        log := logAppend (logAppend s.log now.siteSeconds .regime 3 .part (some 9)) now.siteSeconds .opEnd 1 .part
          (some 100) }

/-- R140, R141, R143, R144: the test's three timers. A step of LOWERING moves the test setpoint by sixteenths; the
sixteenth begins DISCHARGING with the minute timer and the time limit. A minute is counted while the slot is RUNNING. A
STOPPING test ends STOPPED at its minute, and the time limit ends a RUNNING test COMPLETED: the timers stop, the regime is
BULK, or NO_SOURCE without a source, each test string has its figures (0 for a test that is still in LOWERING), and the
record is DONE with the result. -/
def Obligations.TestTimersExpire : Prop :=
  ∀ (s : State) (x : Timer), s.powered = true →
    let now : State := { s with ms := max s.ms x.due }
    let k := s.test.step + 1
    let stepped : TestRec :=
      { s.test with step := k, setpoint := s.test.s0 + truncDiv ((s.test.testV - s.test.s0) * k) 16 }
    (s.test.stepTimer = some x → k < 16 → exec .testStepTimerExpiry s = .next
      { now with test := { stepped with stepTimer := some ⟨x.due, x.due + 3750⟩ } }) ∧
    (s.test.stepTimer = some x → 16 ≤ k → exec .testStepTimerExpiry s = .next
      { now with test := { stepped with
          stepTimer := none, phase := .discharging, minuteTimer := some ⟨now.ms, now.ms + 60000⟩
          limitTimer := some ⟨now.ms, now.ms + s.testArg 0 * 60 * 1000⟩ } }) ∧
    (s.test.minuteTimer = some x → s.slotRunning sTest = true → exec .testMinuteTimerExpiry s = .next
      { now with test := { s.test with
          minutes := s.test.minutes + 1, minuteTimer := some ⟨x.due, x.due + 60000⟩ } }) ∧
    ∀ (r : OpRec) (limit : Bool), s.slots.get sTest = some r → r.state = (if limit then .running else .stopping) →
      (if limit then s.test.limitTimer else s.test.minuteTimer) = some x →
      let test := if limit then s.test
        else { s.test with minutes := s.test.minutes + 1, minuteTimer := some ⟨x.due, x.due + 60000⟩ }
      let last : Termination := if limit then .completed else .stopped
      ∃ t, exec (if limit then .testTimeLimitExpiry else .testMinuteTimerExpiry) s = .next t ∧
        t.slots = s.slots.set sTest (some { r with
          state := .done, termination := some last, cause := some .none, doneStamp := now.siteSeconds
          result := some (test.result (if limit then some .time else none)), unread := true }) ∧
        t.test = { test with stepTimer := none, minuteTimer := none, limitTimer := none } ∧
        t.charge.regime = (if s.sourcePresent then .bulk else .noSource) ∧
        (∀ m ∈ s.test.members, (∀ m' ∈ s.test.members, m'.index = m.index → m' = m) →
          t.strings.get m.index = { s.strings.get m.index with
            test := some (match s.test.phase with
              | .lowering => ⟨0, some 0, 0, last, now.siteSeconds⟩
              | .discharging => ⟨m.delivered / 36000, m.lastV, m.dischargeScans / 60, last, now.siteSeconds⟩) }) ∧
        (∀ n : Fin 4, s.testMember n = false → t.strings.get n = s.strings.get n) ∧
        { t with slots := s.slots, test := s.test, charge := s.charge, strings := s.strings, log := s.log } = now

/-- R44: SYNC STRING of a string in service, no discharge test being in flight, makes it full: Q is C_eff, U is 0, SOC and
SOC_c are 1000, its marker is set, and its SYNC entry has the SOC before. Another length is refused BAD_LENGTH, another
index BAD_SUBJECT; a string not in service is refused STATE 1, and a test in flight refuses it STATE 2. Nothing else
changes. -/
def Obligations.StringSynchronised : Prop :=
  ∀ (s : State) (tag : Byte) (n : Fin 4) (p : List Byte) (v : Nat), s.ready = true →
    (p.length ≠ 1 → exec (.syncString tag p) s = .next (s.heard.answered 0x2D#8 tag (.refuse .badLength 0))) ∧
    (v < 256 → v = 0 ∨ 4 < v →
      exec (.syncString tag [BitVec.ofNat 8 v]) s = .next (s.heard.answered 0x2D#8 tag (.refuse .badSubject 0))) ∧
    let r := s.strings.get n
    let full := { r with q := r.cEff, u := 0, soc := 1000, socC := 1000, full := true, sinceFull := 0, tail := 0 }
    exec (.syncString tag [BitVec.ofNat 8 (n.val + 1)]) s = .next
      (if s.inService n = false then s.heard.answered 0x2D#8 tag (.refuse .state 1)
       else if s.occupied sTest then s.heard.answered 0x2D#8 tag (.refuse .state 2)
       else State.answered
        { s.heard with
          strings := s.strings.set n full
          log := logAppend s.heard.log s.siteSeconds .sync (n.val + 1) .host (some (r.soc : Int)) } 0x2D#8 tag
        (.accept (.string ⟨n, s.enrolled n, true, stringSetting s.settings n 1, full⟩)))

/-- R3, R4, R5, R8, R10, R154: a scan completion, its blocks taking it in any order: the channels, rates and watches
are those the raw readings give at the present settings, the severity relays are formed from then on, and settings,
inputs, clock, link and stored images stand. R33 to R37: an enrolled string whose tail cannot be complete has its
capacity, its charge by the current counted or the charge missed, its SOC and its SOC_c from the new records. R124:
while LVD_RECLOSE reads FALSE, LVD_OPEN coming TRUE makes the stage BATT_OFF with its claims on all targets, NELD_OPEN
coming TRUE makes NORMAL NELD_SHED with its claim on the load, and the stage stands otherwise. When LVD_RECLOSE comes
to read TRUE alone, the sources standing still, a stage other than NORMAL becomes NORMAL with every LVD claim
withdrawn if a source is present, and stands if none is. That the blocks stand in no order is notes/assumptions/10.md,
and that a row of the ladder acts at the edge of its own watch is notes/assumptions/14.md: the model's choices. -/
def Obligations.ScanTaken : Prop :=
  ∀ (s : State) (raw : Table Int 20) (order : List ScanBlock), s.powered = true → order.Nodup → order.length = 8 →
    let m := scanRecords s.settings s.meas raw
    let measured : State := { s with meas := m }
    ∃ t, exec (.scanCompletion raw order) s = .next t ∧ t.meas = m ∧ t.relaysFormed = true ∧
      t.ms = max s.ms ((s.meas.scanCount + 1) * 1000) ∧ t.settings = s.settings ∧ t.inputs = s.inputs ∧
      t.clock = s.clock ∧ t.link = s.link ∧ t.stored = s.stored ∧ t.record = s.record ∧ t.mode = s.mode ∧
      (∀ c : Fin 20, (m.channels.get c) = if channelEnabled s.settings c then
          (match convert c (raw.get c) with
            | (_, .faulty) => ⟨none, .faulty, min 65535 ((s.meas.channels.get c).age + 1)⟩
            | (v, st) => ⟨v, st, 0⟩)
        else ⟨none, .disabled, 65535⟩) ∧
      (let rose := fun k : Fin 16 => (m.watches.get k).reading && !(s.meas.watches.get k).reading
       (m.watches.get wLvdReclose).reading = false →
        (rose wLvdOpen = true → t.lvd = .battOff ∧ (s.lvd ≠ .battOff → ∀ T, (t.targets.get T).lvd = true)) ∧
        (rose wLvdOpen = false → rose wNeldOpen = true → s.lvd = .normal →
          t.lvd = .neldShed ∧ (t.targets.get tNeld).lvd = true) ∧
        (rose wLvdOpen = false → (rose wNeldOpen = false ∨ s.lvd ≠ .normal) → t.lvd = s.lvd)) ∧
      (measured.rose s.meas wLvdReclose = true → measured.rose s.meas wLvdOpen = false →
        measured.rose s.meas wNeldOpen = false → measured.sourcesStill = true →
        (s.sourcePresent = true → s.lvd ≠ .normal → t.lvd = .normal ∧ ∀ T, (t.targets.get T).lvd = false) ∧
        (s.sourcePresent = false ∨ s.lvd = .normal → t.lvd = s.lvd)) ∧
      ∀ n : Fin 4, s.enrolled n = true → (s.strings.get n).tail + 1 < stringSetting s.settings n 6 →
        let old := s.strings.get n
        let cap := measured.chooseTCap n
        let cEff := stringSetting s.settings n 1 * 360000 * capacityFactor (s.setting 0x0140) cap.1 / 1024
        let q := min old.q cEff
        let u := min old.u cEff
        let r := t.strings.get n
        r.tCap = cap.1 ∧ r.tSource = cap.2 ∧ r.cEff = cEff ∧
        (∀ i, measured.reads (cStrI n) = some i →
          (r.q : Int) = max 0 (min (cEff : Int) ((q : Int) + chargeChange s.settings n i)) ∧ r.u = u ∧
          r.lastI = some i) ∧
        (measured.reads (cStrI n) = none →
          r.q = q ∧ r.lastI = old.lastI ∧
          r.u = min cEff (u + match old.lastI with | some i => i.natAbs | none => stringSetting s.settings n 4)) ∧
        r.soc = 1000 * r.q / cEff ∧ r.socC = 1000 * (r.q - r.u) / cEff

/-- R38, R39, R40, R41, R32: what a scan completion makes of each enrolled string beside its count, the sources, the
ladder and the THERMAL claims standing still and the regime standing: the phase from the current against rest_band;
the full marker, cleared below full_drop of the capacity; the tail, counted in ABSORB and EQUALIZE; the full
synchronisation that a complete tail makes (its STRING_FULL entry apart); and the time since full. An unenrolled
string's record stands. -/
def Obligations.StringsScanned : Prop :=
  ∀ (s : State) (raw : Table Int 20) (order : List ScanBlock), s.powered = true → order.Nodup → order.length = 8 →
    let measured : State := { s with meas := scanRecords s.settings s.meas raw }
    measured.scanStill s.meas = true →
    ∃ t, exec (.scanCompletion raw order) s = .next t ∧ ∀ n : Fin 4,
      (s.enrolled n = false → t.strings.get n = s.strings.get n) ∧
      (s.enrolled n = true → t.charge.regime = s.charge.regime →
        let old := s.strings.get n
        let r := t.strings.get n
        let cEff := stringSetting s.settings n 1 * 360000 *
          capacityFactor (s.setting 0x0140) (measured.chooseTCap n).1 / 1024
        let q := match measured.reads (cStrI n) with
          | some i => max 0 (min (cEff : Int) ((min old.q cEff : Nat) + chargeChange s.settings n i))
          | none => ((min old.q cEff : Nat) : Int)
        let kept := old.full && decide (((cEff * (1000 - s.setting 0x0141) / 1000 : Nat) : Int) ≤ q)
        let charging := s.charge.regime == .absorb || s.charge.regime == .equalize
        let tail := match measured.reads (cStrI n) with
          | some i => if charging && s.inService n && decide (0 ≤ i ∧ i ≤ (stringSetting s.settings n 5 : Nat))
              then old.tail + 1 else 0
          | none => 0
        r.phase = (if s.inService n = false then .isolated
          else match measured.reads (cStrI n) with
            | some i => if (s.setting 0x0142 : Int) < i then .charging
                else if i < -(s.setting 0x0142 : Int) then .discharging else .resting
            | none => if old.phase = .isolated then .resting else old.phase) ∧
        (0 < tail → stringSetting s.settings n 6 ≤ tail →
          r.q = cEff ∧ r.u = 0 ∧ r.soc = 1000 ∧ r.socC = 1000 ∧ r.full = true ∧ r.sinceFull = 0 ∧ r.tail = 0) ∧
        (tail = 0 ∨ tail < stringSetting s.settings n 6 →
          (r.q : Int) = q ∧ r.full = kept ∧ r.tail = tail ∧
          r.sinceFull = if kept then old.sinceFull else min 2147483647 (old.sinceFull + 1)))

/-- R52, R53, R54, R55, R58, R59, R61, R64, R66: what a scan completion makes of the charge regime, the sources, the
ladder and the THERMAL claims standing still and no string's full marker changing: T_comp and its source, the guard,
the two counters of the scheduled equalize and the setpoint are formed; a running equalize is aborted THERMAL by the
guard or by a hot string in service; NO_SOURCE with a source is left; BULK counts the seconds at the setpoint that
stood before the scan, and is ABSORB after 60; ABSORB is FLOAT when every string in service is full; BULK and ABSORB
are FLOAT when none is in service. That a scan completion makes at most one transition is the model's choice,
notes/assumptions/57.md. -/
def Obligations.RegimeScanned : Prop :=
  ∀ (s : State) (raw : Table Int 20) (order : List ScanBlock), s.powered = true → order.Nodup → order.length = 8 →
    let measured : State := { s with meas := scanRecords s.settings s.meas raw }
    measured.scanStill s.meas = true →
    ∃ t, exec (.scanCompletion raw order) s = .next t ∧
      ((∀ n, (t.strings.get n).full = (s.strings.get n).full) →
        let temps := s.serviceSet.filterMap fun n => measured.reads (cStrT n)
        let guard := decide ((s.setting 0x0208 : Int) ≤ t.charge.tComp)
        let hot := temps.any fun v => decide ((s.setting 0x020B : Int) ≤ v)
        let present := s.sourcePresent
        let reached := match measured.reads cBusV with
          | some v => some (decide (s.charge.setpoint - 10 ≤ v))
          | none => none
        let aborted := s.charge.regime == .equalize && (guard || hot)
        let regime : Regime := match s.charge.regime with
          | .noSource => if present then (if s.anyNotFull then .bulk else .float) else .noSource
          | .bulk => if s.serviceSet = [] then .float
              else if reached = some true ∧ 59 ≤ s.charge.bulkHeld.getD 0 then .absorb else .bulk
          | .absorb => if s.serviceSet = [] ∨ s.allFull = true then .float else .absorb
          | .equalize => if aborted then (if present then .float else .noSource) else .equalize
          | .float => .float
          | .test => .test
        (temps ≠ [] → t.charge.compSource = .string ∧ t.charge.tComp ∈ temps ∧ ∀ v ∈ temps, v ≤ t.charge.tComp) ∧
        (temps = [] → match measured.reads cAmbT with
          | some a => t.charge.compSource = .ambient ∧ t.charge.tComp = a
          | none => if measured.watch wAmbHot then t.charge.compSource = .defaultHot ∧ t.charge.tComp = 450
              else t.charge.compSource = .default ∧ t.charge.tComp = 250) ∧
        (t.points.get pTempCompLost).raw = (t.charge.compSource != .string) ∧
        t.charge.guard = guard ∧ t.charge.regime = regime ∧
        t.charge.setpoint = formedSetpoint s.settings t.charge ∧
        t.charge.eqElapsed = min 2147483647 (s.charge.eqElapsed + 1) ∧
        t.charge.eqHoldoff = (if aborted then 86400 else s.charge.eqHoldoff - 1) ∧
        (regime = s.charge.regime → t.charge.entered = s.charge.entered ∧ t.charge.absorb = s.charge.absorb) ∧
        (regime ≠ s.charge.regime → t.charge.entered = t.siteSeconds ∧ t.charge.absorb =
          if regime = .absorb then some ⟨t.ms, t.ms + s.setting 0x0207 * 3600000⟩ else none) ∧
        (s.charge.regime = .bulk → regime = .bulk → t.charge.bulkHeld = match reached, s.charge.bulkHeld with
          | some true, none => some 0
          | some true, some k => some (k + 1)
          | some false, _ => none
          | none, h => h) ∧
        ∀ r, s.slots.get sCharge = some r → r.occupied = true → t.slots = if aborted then
            s.slots.set sCharge (some { r with
              state := .done, termination := some .aborted, cause := some .thermal, doneStamp := t.siteSeconds
              result := some (.equalize s.charge.eqMinutes), unread := true })
          else s.slots)

/-- R122, R123: what a scan completion makes of the THERMAL claim of an enrolled string. A string at or above
thermal_open, or one not cooled to thermal_release whose rate stands at dT_limit while it is CHARGING, has its claim
asserted, with its drive OPEN and its point's condition true; a string that is neither hot nor fast keeps none. A
standing claim is withdrawn when the string has cooled to thermal_release and its point stands in NORMAL or HELD, and
the claims that remain decide the string (a rate that stands at dT_limit might assert it again); otherwise it stands. -/
def Obligations.ThermalScanned : Prop :=
  ∀ (s : State) (raw : Table Int 20) (order : List ScanBlock) (n : Fin 4), s.powered = true → order.Nodup →
    order.length = 8 → s.enrolled n = true → thermalRelation s.settings = true →
    let measured : State := { s with meas := scanRecords s.settings s.meas raw }
    let hot := match measured.reads (cStrT n) with | some v => decide ((s.setting 0x0606 : Int) ≤ v) | none => false
    let cool := match measured.reads (cStrT n) with | some v => decide (v ≤ (s.setting 0x0607 : Int)) | none => false
    let fast := match (measured.meas.rates.get n.castSucc).rate with
      | some v => decide ((s.setting 0x0608 : Int) ≤ v)
      | none => false
    let point := (s.points.get (pStringThermal n)).state
    ∃ t, exec (.scanCompletion raw order) s = .next t ∧
      let r := t.targets.get (stringTarget n)
      ((s.targets.get (stringTarget n)).thermal = false →
        (hot = true ∨ (fast = true ∧ cool = false ∧ (t.strings.get n).phase = .charging) →
          r.thermal = true ∧ r.drive = .opened ∧ r.decider = .thermal ∧
          (t.points.get (pStringThermal n)).raw = true ∧
          ((s.targets.get (stringTarget n)).drive = .closed → t.relayOn (rTarget (stringTarget n)) = true)) ∧
        (hot = false → fast = false ∨ ((s.strings.get n).phase ≠ .charging ∧ (t.strings.get n).phase ≠ .charging) →
          r.thermal = false)) ∧
      ((s.targets.get (stringTarget n)).thermal = true →
        (cool = true → fast = false → point = .normal ∨ point = .held →
          r.thermal = false ∧ (t.points.get (pStringThermal n)).raw = false ∧
          r.drive = (if r.lvd then .opened else if r.hand then r.drive else r.host.getD r.service)) ∧
        (cool = false ∨ point = .raised ∨ point = .latched → r.thermal = true))

/-- R90, R92, R103, R110: what a scan completion makes of the grid. It is qualified when both its watches read TRUE. A
change of its qualification is handed to GRID_FAIL, forms the present source, makes an evaluation, and, when the grid has
returned, ends the start latch and stops a run to which the grid return applies, whatever its minimum time (the engine
having nothing else to act on, and the run's own stop conditions not being tested yet): a run on load is unloaded, and a
start without an engine is OFF, its record DONE with cause SOURCE_CHANGED. Without a change nothing of this happens. -/
def Obligations.GridScanned : Prop :=
  ∀ (s : State) (raw : Table Int 20) (order : List ScanBlock), s.powered = true → order.Nodup → order.length = 8 →
    let measured : State := { s with meas := scanRecords s.settings s.meas raw }
    let q := measured.gridWatches
    ∃ t, exec (.scanCompletion raw order) s = .next t ∧ t.mains.qualified = q ∧
      (q = s.mains.qualified → t.points.get pGridFail = s.points.get pGridFail ∧
        (measured.engineQuiet = true → t.mains = s.mains ∧ t.gen = s.gen ∧ t.sched = s.sched)) ∧
      (q ≠ s.mains.qualified →
        let p := s.points.get pGridFail
        (t.points.get pGridFail).raw = (!q) ∧
        (q = false → p.raw = false → p.proof = false → s.masked pGridFail = false → p.state = .normal →
          (t.points.get pGridFail).state = .raised ∧ (t.points.get pGridFail).last = t.siteSeconds) ∧
        t.mains.source = t.formedSource ∧ t.sched.lastEval = t.siteSeconds ∧ t.sched.evaluated = true ∧
        (q = true → t.sched.latch = false) ∧
        ∀ r, q = true → measured.engineQuiet = true → s.gen.onload < s.setting 0x0407 * 60 →
          s.slots.get sGenerator = some r → r.kind = .run → r.state = .running → s.gen.stop = none →
          s.occupied sTest = false →
          let applies := r.reason ≠ some .host ∨ (∃ m, r.args = [m + 1] ∧ (m + 1) * 60 ≤ s.gen.onload)
          (s.gen.state = .onloadRunning → applies →
            t.gen = { s.gen with
              state := .onloadUnloading, stop := some ⟨.gridReturn, .completed, .sourceChanged⟩ } ∧
            t.slots.get sGenerator =
              some { r with state := .stopping, termination := some .completed, cause := some .sourceChanged } ∧
            t.shelf.ramp.kind = .unload) ∧
          (s.gen.state = .onloadRunning → ¬ applies → r.args.length = 1 →
            t.gen = s.gen ∧ t.slots.get sGenerator = some r) ∧
          (s.gen.state = .prestart ∨ s.gen.state = .crank ∨ s.gen.state = .rest → s.running = false →
            measured.running = false → applies →
            t.gen.state = .off ∧ t.relayOn rFuelRun = false ∧ t.relayOn rCrank = false ∧
            ∃ r', t.slots.get sGenerator = some r' ∧ r'.state = .done ∧ r'.termination = some .completed ∧
              r'.cause = some .sourceChanged ∧ r'.unread = true))

/-- R140, R141, R142: what a scan completion makes of a discharge test in flight. The lowest BUS_V is kept; in
DISCHARGING each test string's charge, scans and voltage are counted, and a RUNNING test ends COMPLETED at its depth,
or at the tenth count at its end voltage; ten counts at test_v + 20 abort it LOW_VOLTAGE; otherwise its figures stand
as counted. A test whose own counts do not end it is aborted, in either phase, SOURCE_CHANGED by the loss of the grid,
THERMAL by a claim on a test string, LOW_VOLTAGE by the ladder, and GENERATOR_START by an engine that runs in OFF,
each while the others stand still. -/
def Obligations.TestScanned : Prop :=
  ∀ (s : State) (raw : Table Int 20) (order : List ScanBlock) (r : OpRec), s.powered = true → order.Nodup →
    order.length = 8 → s.slots.get sTest = some r → r.occupied = true → s.gen.state = .off →
    let measured : State := { s with meas := scanRecords s.settings s.meas raw }
    let bus := measured.reads cBusV
    let working := r.state == .running && s.test.phase == .discharging
    let members := if s.test.phase = .discharging then s.test.members.map (scanMember measured) else s.test.members
    let deep := working && decide
      (s.testArg 1 * (members.map (·.cRated)).sum ≤ 100 * (members.map (·.delivered)).sum)
    let counted := fun (level : Int) (c : Option Nat) => match bus with
      | some v => if v ≤ level then some (match c with | some k => k + 1 | none => 0) else none
      | none => c
    let reached := fun c : Option Nat => match c with | some k => decide (10 ≤ k) | none => false
    let ends := counted (s.testArg 2) s.test.endCount
    let lows := counted (s.test.testV + 20) s.test.lowCount
    let figures : TestRec := { s.test with
      members := members
      lowest := match s.test.lowest, bus with
        | none, b => b
        | some l, some b => some (min l b)
        | some l, none => some l }
    let spent := deep || (working && reached ends) || reached lows
    let sources := measured.gridWatches == s.mains.qualified
    let heat := measured.thermalStill
    let ladder := measured.ladderStill s.meas
    let quiet := !measured.running
    ∃ t, exec (.scanCompletion raw order) s = .next t ∧
      let ended := fun (w : Termination) (c : Cause) => ∃ r', t.slots.get sTest = some r' ∧ r'.state = .done ∧
        r'.termination = some w ∧ r'.cause = some c ∧ r'.unread = true ∧
        t.test.stepTimer = none ∧ t.test.minuteTimer = none ∧ t.test.limitTimer = none
      (sources = true → heat = true → ladder = true → quiet = true →
        (deep = true → t.slots.get sTest = some { r with
          state := .done, termination := some .completed, cause := some .none, doneStamp := t.siteSeconds, unread := true
          result := some (figures.result (some .depth)) }) ∧
        (deep = false → working = true → reached ends = true → t.slots.get sTest = some { r with
          state := .done, termination := some .completed, cause := some .none, doneStamp := t.siteSeconds, unread := true
          result := some (figures.result (some .endVoltage)) }) ∧
        (deep = false → (working && reached ends) = false → reached lows = true → t.slots.get sTest = some { r with
          state := .done, termination := some .aborted, cause := some .lowVoltage, doneStamp := t.siteSeconds
          unread := true, result := some (figures.result none) }) ∧
        (spent = false → t.slots.get sTest = some r ∧
          t.test = { figures with lowCount := lows, endCount := if working then ends else s.test.endCount })) ∧
      (spent = false → s.mains.qualified = true → sources = false → heat = true → ladder = true → quiet = true →
        ended .aborted .sourceChanged) ∧
      (spent = false → sources = true → ladder = true → quiet = true →
        (∃ n, s.testMember n = true ∧ s.enrolled n = true ∧ (s.targets.get (stringTarget n)).thermal = false ∧
          measured.thermalHot n = true ∧
          ∀ m, m ≠ n → s.testMember m = true → measured.thermalHot m = false ∧ measured.thermalFast m = false) →
        ended .aborted .thermal) ∧
      (spent = false → sources = true → heat = true → quiet = true →
        measured.rose s.meas wLvdOpen = true → measured.rose s.meas wLvdReclose = false → s.lvd ≠ .battOff →
        ended .aborted .lowVoltage) ∧
      (spent = false → sources = true → heat = true → ladder = true → quiet = false → ended .aborted .generatorStart)

/-! ## The rectifier shelf -/

/-- R68, R79, R80, R81, R82, R85: a poll cycle completion. The written rating, loading_pct, redundancy, min_online and
gen_dc_limit take effect. By them the demand, the required count and REDUNDANCY_LOST's condition are formed; the total limit is within the target, the target within the demand, and on GENERATOR within gen_limit; the
limits planned for the energized modules add up to the total limit exactly. With no rotation in flight and no ramp at
its end, one module is started while too few are energized, the one with the fewest run minutes, and one is shed when
the excess has stood for the shed delay; no other module changes state. -/
def Obligations.PollCycleTaken : Prop :=
  ∀ s : State, s.powered = true →
    let demand := match s.reads cLoadI with
      | some l => l.toNat + s.allowance
      | none => s.energizedCount * s.setting 0x0300
    let n := ceilDiv (demand * 100) (s.setting 0x0300 * s.setting 0x0301) + s.setting 0x0302
    let needed := min s.healthyCount (max n (s.setting 0x0303))
    let now := max s.ms ((s.shelf.cycle + 1) * 600)
    ∃ t, exec .pollCycleCompletion s = .next t ∧ t.shelf.cycle = s.shelf.cycle + 1 ∧ t.ms = now ∧
      t.shelf.inForce = s.shelfFigures ∧
      t.shelf.iDemand = demand ∧ t.shelf.nReqUnclamped = n ∧ t.shelf.nReq = needed ∧
      (t.points.get pRedundancyLost).raw = decide (s.healthyCount < n) ∧
      t.shelf.lTot ≤ t.shelf.target ∧ t.shelf.target ≤ demand ∧
      (s.mains.source = .generator → t.shelf.lTot ≤ s.setting 0x0306) ∧
      ((∃ p l, t.shelf.plan.get p = .on l) → planTotal t.shelf.plan.rows = t.shelf.lTot) ∧
      (s.shelf.rotation = none → s.shelf.ramp.step < 16 ∨ s.shelf.ramp.kind = .none ∨ s.shelf.ramp.kind = .zero →
        { t with shelf := s.shelf, points := s.points, relays := s.relays, log := s.log } = { s with ms := now } ∧
        t.otherRelaysAs s ∧
        (s.energizedCount < needed → ∀ p, s.leastWornStandby = some p →
          t.moduleState p = .starting ∧ (t.shelf.modules.get p).startTimer = some ⟨now, now + 10000⟩ ∧
          t.shelf.shedTimer = none ∧ ∀ q, q ≠ p → t.moduleState q = s.moduleState q) ∧
        (s.energizedCount = needed → t.shelf.shedTimer = none ∧ ∀ q, t.moduleState q = s.moduleState q) ∧
        (needed < s.energizedCount → s.shelf.shedTimer = none →
          t.shelf.shedTimer = some now ∧ ∀ q, t.moduleState q = s.moduleState q) ∧
        ∀ t0, needed < s.energizedCount → s.shelf.shedTimer = some t0 →
          (now < t0 + s.setting 0x0304 * 1000 →
            t.shelf.shedTimer = some t0 ∧ ∀ q, t.moduleState q = s.moduleState q) ∧
          (t0 + s.setting 0x0304 * 1000 ≤ now → ∀ p, s.mostWornOnline = some p →
            t.moduleState p = .standby ∧ t.shelf.shedTimer = some now ∧
            ∀ q, q ≠ p → t.moduleState q = s.moduleState q))

/-- R69, R72, R73, R74: a good reply, no rotation being in flight. One from a position that was not polled does
nothing (the model's choice, notes/assumptions/24.md), and the command sent is noted with the reply (the model's
choice, notes/assumptions/23.md). The reply is kept, the misses are 0, and the state is as the table of replies has
it: an unenrolled position becomes FOUND, an enrolled one moves by what it answers, with its fault code (254 for an
ONLINE module that answers OFF). When an energized module fails the STANDBY module with the fewest run minutes is
started; no other module changes. -/
def Obligations.ModuleReplied : Prop :=
  ∀ (s : State) (p : Fin 12) (a : ModuleAnswer), s.powered = true → s.shelf.rotation = none →
    let m := s.shelf.modules.get p
    (s.shelf.plan.get p = .silent → exec (.moduleReply p a) s = .next s) ∧
    (s.shelf.plan.get p ≠ .silent →
      let st := if s.moduleEnrolled p then replyState m.state a.out m.good
        else if m.state = .notFitted then .found else m.state
      let failed := s.moduleEnrolled p && m.state.energized && st == .fault
      ∃ t, exec (.moduleReply p a) s = .next t ∧
        t.moduleState p = st ∧ (t.shelf.modules.get p).miss = 0 ∧
        (t.shelf.modules.get p).lastReply = some ⟨a, s.siteSeconds⟩ ∧
        (t.shelf.modules.get p).lastCommand = s.sentCommand p ∧
        (st = .fault → m.state ≠ .fault →
          (t.shelf.modules.get p).fault = if m.state = .online ∧ a.out = .off then 254 else a.code) ∧
        (∀ q, q ≠ p → (failed = true → s.leastWornStandby ≠ some q) →
          t.shelf.modules.get q = s.shelf.modules.get q) ∧
        (failed = true → ∀ q, s.leastWornStandby = some q → t.moduleState q = .starting) ∧
        t.otherRelaysAs s ∧ (∀ q, q ≠ pRectFail → q ≠ pRectComms → t.points.get q = s.points.get q) ∧
        { t with shelf := s.shelf, points := s.points, relays := s.relays, log := s.log } = s)

/-- R72, R73, R74: a miss and a start timer, no rotation being in flight. A miss counts at every position but
NOT_FITTED; at three a FOUND position is NOT_FITTED and an enrolled one LOST; a position that was not polled misses
nothing (the model's choice, notes/assumptions/24.md), and the command sent is noted with the miss (the model's
choice, notes/assumptions/23.md). A module that has not come on in its start time is in FAULT with code 255. When an
energized module fails the STANDBY module with the fewest run minutes is started. -/
def Obligations.ModuleMissed : Prop :=
  ∀ (s : State) (p : Fin 12), s.powered = true → s.shelf.rotation = none →
    let m := s.shelf.modules.get p
    let n := min 255 (m.miss + 1)
    let others := fun (failed : Bool) (t : State) =>
      (∀ q, q ≠ p → (failed = true → s.leastWornStandby ≠ some q) → t.shelf.modules.get q = s.shelf.modules.get q) ∧
      (failed = true → ∀ q, s.leastWornStandby = some q → t.moduleState q = .starting) ∧ t.otherRelaysAs s ∧
      (∀ q, q ≠ pRectFail → q ≠ pRectComms → t.points.get q = s.points.get q)
    (s.shelf.plan.get p = .silent → exec (.moduleMiss p) s = .next s) ∧
    (s.shelf.plan.get p ≠ .silent → ∃ t, exec (.moduleMiss p) s = .next t ∧
      (t.shelf.modules.get p).miss = (if m.state = .notFitted then m.miss else n) ∧
      (t.shelf.modules.get p).lastCommand = s.sentCommand p ∧
      t.moduleState p = (if n < 3 ∨ m.state = .notFitted then m.state else if m.state = .found then .notFitted else .lost) ∧
      others (m.state.energized && decide (3 ≤ n)) t ∧
      { t with shelf := s.shelf, points := s.points, relays := s.relays, log := s.log } = s) ∧
    ∀ x : Timer, m.startTimer = some x → m.state = .starting → ∃ t, exec (.startTimerExpiry p) s = .next t ∧
      t.moduleState p = .fault ∧ (t.shelf.modules.get p).fault = 255 ∧ (t.shelf.modules.get p).startTimer = none ∧
      others true t ∧
      { t with shelf := s.shelf, points := s.points, relays := s.relays, log := s.log } = { s with ms := max s.ms x.due }

/-- R84: the ramp's step timer takes the next step, and the timer runs on until step 16; nothing else changes. A stopped
timer does not expire (the model's choice, notes/assumptions/1.md). -/
def Obligations.RampStepTaken : Prop :=
  ∀ s : State, s.powered = true →
    (s.shelf.ramp.timer = none → exec .rampStep s = .next s) ∧
    ∀ x : Timer, s.shelf.ramp.timer = some x → exec .rampStep s = .next
      { s with
        ms := max s.ms x.due
        shelf := { s.shelf with ramp := { s.shelf.ramp with
          step := if s.shelf.ramp.step < 16 then s.shelf.ramp.step + 1 else 16
          timer := if s.shelf.ramp.step < 15 then some ⟨x.due, x.due + s.shelf.ramp.interval⟩ else none } } }

/-- R76, R77, R81: ENROL and RETIRE, with their refusals in order. An enrolled position is UNPOLLED and in the enrolled
mask, with its run minutes at 0 when the request says so; a retired one is NOT_FITTED and out of the mask, with an off
command owed. No other position changes. RETIRE is held to the min_online in force since the last poll cycle
completion (R81). -/
def Obligations.ModuleEnrolledAndRetired : Prop :=
  ∀ (s : State) (tag : Byte) (p : Fin 12), s.ready = true → settingsWf s.settings = true →
    let m := s.shelf.modules.get p
    (∀ f : Nat, f < 256 →
      let done := exec (.enrol tag [BitVec.ofNat 8 (p.val + 1), BitVec.ofNat 8 f]) s
      let refuse := fun r => done = .next (s.heard.answered 0x2B#8 tag (.refuse r 0))
      (1 < f → refuse .range) ∧ (f ≤ 1 → s.storePending = true → refuse .busy) ∧
      (f ≤ 1 → s.storePending = false → s.moduleEnrolled p = true → refuse .state) ∧
      (f ≤ 1 → s.storePending = false → s.moduleEnrolled p = false → ∃ t, done = .next t ∧
        t.moduleEnrolled p = true ∧ (∀ q, q ≠ p → t.moduleEnrolled q = s.moduleEnrolled q) ∧
        (∀ id, id ≠ 0x0309 → t.setting id = s.setting id) ∧
        t.shelf.modules = s.shelf.modules.set p { m with
          state := .unpolled, fault := 0, good := 0, startTimer := none, miss := 0, owed := false
          runMinutes := if f = 1 then 0 else m.runMinutes, onlineSeconds := if f = 1 then 0 else m.onlineSeconds } ∧
        t.otherRelaysAs s.heard ∧ (∀ q, q ≠ pRectFail → q ≠ pRectComms → t.points.get q = s.heard.points.get q) ∧
        { t with settings := s.settings, shelf := s.shelf, points := s.heard.points, relays := s.heard.relays,
                 log := s.heard.log, link := s.heard.link } = s.heard)) ∧
    (let done := exec (.retire tag [BitVec.ofNat 8 (p.val + 1)]) s
     let refuse := fun r d => done = .next (s.heard.answered 0x2C#8 tag (.refuse r d))
     let part := match s.shelf.rotation with | some r => r.incoming == p || r.outgoing == p | none => false
     let last := m.state == .online && decide (s.energizedCount < s.shelf.inForce.minOnline + 1)
     (s.storePending = true → refuse .busy 0) ∧
     (s.storePending = false → s.moduleEnrolled p = false → refuse .state 1) ∧
     (s.storePending = false → s.moduleEnrolled p = true → part = true → refuse .busy 0) ∧
     (s.storePending = false → s.moduleEnrolled p = true → part = false → last = true → refuse .state 2) ∧
     (s.storePending = false → s.moduleEnrolled p = true → part = false → last = false → ∃ t, done = .next t ∧
        t.moduleEnrolled p = false ∧ (∀ q, q ≠ p → t.moduleEnrolled q = s.moduleEnrolled q) ∧
        (∀ id, id ≠ 0x0309 → t.setting id = s.setting id) ∧
        t.shelf = { s.shelf with modules := s.shelf.modules.set p { m with
          state := .notFitted, fault := 0, good := 0, startTimer := none, miss := 0, owed := true } } ∧
        t.otherRelaysAs s.heard ∧ (∀ q, q ≠ pRectFail → q ≠ pRectComms → t.points.get q = s.heard.points.get q) ∧
        { t with settings := s.settings, shelf := s.shelf, points := s.heard.points, relays := s.heard.relays,
                 log := s.heard.log, link := s.heard.link } = s.heard))

/-! ## The engine and the sources -/

/-- R95, R96, R97, R104: the timers of a start. After the prestart comes attempt 1, or the warm-up when running is
detected already (with warmup_s 0 in its check window; both generator readings TRUE in it lead on). Without running,
after a crank that was not the last a rest, after the rest the next attempt; after the last crank the lockout: the
slot DONE, ABORTED with cause FAULT, and GEN_FAIL_START, unless it is masked, with its momentary condition; START
alone arms the retry timer. FUEL_RUN is energized but in the lockout, CRANK in CRANK only. The evaluation that the
change of state makes may begin an equalize or a rotation; nothing beside it changes. That the record's fuel_used is
formed before that evaluation is the model's choice, notes/assumptions/60.md. -/
def Obligations.StartTimersExpire : Prop :=
  ∀ (s : State) (x : Timer), s.powered = true → s.gen.timer = some x →
    let now : State := { s with ms := max s.ms x.due }
    let entered := fun (c : Instr) (g : Generator) => ∃ t, exec c s = .next t ∧ t.gen = g ∧
      t.slots.get sGenerator = s.slots.get sGenerator ∧ t.relayOn rFuelRun = true ∧
      t.relayOn rCrank = (g.state == .crank) ∧ t.besideEvaluation = { now with gen := g }.besideEvaluation
    let state := fun (st : GenState) (n id : Nat) => { s.gen with
      state := st, attempt := n, timer := some ⟨now.ms, now.ms + s.setting id * 1000⟩, window := none, exercise := none }
    (s.gen.state = .prestart → s.running = true → (s.setting 0x0404 = 0 → s.genWatches = false) →
      entered .prestartTimerExpiry (if s.setting 0x0404 = 0
        then { state .warmup s.gen.attempt 0x0404 with timer := none, window := some ⟨now.ms, now.ms + 30000⟩ }
        else state .warmup s.gen.attempt 0x0404)) ∧
    (s.running = false → s.gen.state = .prestart → entered .prestartTimerExpiry (state .crank 1 0x0401)) ∧
    (s.running = false → s.gen.state = .crank → s.gen.attempt < s.setting 0x0403 →
      entered .crankTimerExpiry (state .rest s.gen.attempt 0x0402)) ∧
    (s.running = false → s.gen.state = .rest → entered .restTimerExpiry (state .crank (s.gen.attempt + 1) 0x0401)) ∧
    ∀ r, s.running = false → s.gen.state = .crank → s.setting 0x0403 ≤ s.gen.attempt → s.masked pGenFailStart = false →
      s.gen.kept = none → s.slots.get sGenerator = some r → r.occupied = true →
      let causes := { s.gen.causes with start := true }
      let g : Generator := { s.gen with
        state := .lockout, timer := none, window := none, exercise := none, stop := none, causes := causes
        lockoutAt := now.ms
        retry := if causes.run = false ∧ causes.stop = false ∧ 0 < s.setting 0x0409
          then some ⟨now.ms, now.ms + s.setting 0x0409 * 3600000⟩ else none }
      ∃ t, exec .crankTimerExpiry s = .next t ∧ t.gen = g ∧
        t.slots.get sGenerator = some { r with
          state := .done, termination := some .aborted, cause := some .fault, doneStamp := now.siteSeconds
          result := some (.generator (s.gen.onload / 60) (s.gen.idling / 60) s.gen.attempt
            (s.gen.fuelStart - s.sched.estimate) r.reason (some .startFail)), unread := true } ∧
        t.points.get pGenFailStart = now.latchedPoint pGenFailStart ∧
        t.relayOn rFuelRun = false ∧ t.relayOn rCrank = false ∧
        t.besideEvaluation = { now with gen := g }.besideEvaluation

/-- R93, R96, R97, R100: what the controller's supervision does. GEN_RUNNING coming active in CRANK or REST begins the
warm-up; its end opens the check window; a RUN proceeds to ONLOAD with a transfer when both generator readings are TRUE in
it; and a window that expires is a failure. A fault input in ONLOAD cuts the fuel, gives the feed back and marks the run
failed. -/
def Obligations.EngineSupervised : Prop :=
  ∀ (s : State), s.powered = true →
    let gone := fun (st : GenState) (timer window : Option Timer) => { s.gen with
      state := st, timer := timer, window := window, exercise := none }
    (∀ closed, s.gen.state = .crank ∨ s.gen.state = .rest → s.setting 0x0404 ≠ 0 →
      (s.inputs.get iGenRunning).contact ≠ closed → s.activeWith iGenRunning closed = true → s.active iGenRunning = false →
      ∃ t, exec (.inputChange iGenRunning closed) s = .next t ∧
        t.gen = gone .warmup (some ⟨s.ms, s.ms + s.setting 0x0404 * 1000⟩) none ∧
        t.relayOn rFuelRun = true ∧ t.relayOn rCrank = false ∧
        t.besideEvaluation = { s with gen := t.gen, inputs := t.inputs }.besideEvaluation) ∧
    (∀ x, s.gen.state = .warmup → s.gen.timer = some x → s.running = true → s.genWatches = false →
      let now := max s.ms x.due
      exec .warmupTimerExpiry s = .next { s with
        ms := now, gen := { s.gen with timer := none, window := some ⟨now, now + 30000⟩ } }) ∧
    (∀ x, s.gen.state = .warmup → s.gen.timer = some x → s.running = true → s.genWatches = true →
      s.faultInput = false → s.genKind .run = true → s.mains.changeover = .mainsFeed →
      let now := max s.ms x.due
      ∃ t, exec .warmupTimerExpiry s = .next t ∧ t.gen = gone .onloadWalkin none none ∧
        t.mains.changeover = .toGen ∧ t.mains.gapTimer = some ⟨now, now + 1000⟩ ∧ t.mains.source = .none ∧
        t.relayOn rMainsBreak = true ∧ t.relayOn rGenMake = false ∧ t.shelf.ramp.kind = .zero) ∧
    (∀ x, s.gen.state = .warmup → s.gen.window = some x → s.running = true →
      let now : State := { s with ms := max s.ms x.due }
      ∃ t, exec .checkWindowExpiry s = .next t ∧
        t.gen = { gone .rundown (some ⟨now.ms, now.ms + 60000⟩) none with
          target := .lockout, stop := some ⟨.warmupFail, .aborted, .fault⟩
          causes := { s.gen.causes with run := true } } ∧
        t.points.get pGenFailRun = now.latchedPoint pGenFailRun ∧
        t.relayOn rFuelRun = false ∧ t.relayOn rCrank = false ∧
        t.besideEvaluation = { now with gen := t.gen }.besideEvaluation) ∧
    ∀ (i : Fin 16) closed, i = iLowOil ∨ i = iHighTemp → s.gen.state = .onloadRunning → s.running = true →
      s.mains.changeover = .genFeed → (s.inputs.get i).contact ≠ closed → s.activeWith i closed = true →
      s.active i = false → ∃ t, exec (.inputChange i closed) s = .next t ∧
        t.gen = { gone .rundown (some ⟨s.ms, s.ms + 60000⟩) none with
          target := .lockout, stop := some ⟨.faultInput, .aborted, .fault⟩
          causes := { s.gen.causes with run := true } } ∧
        t.mains.changeover = .toMains ∧ t.mains.gapTimer = some ⟨s.ms, s.ms + 1000⟩ ∧
        t.points.get pGenFailRun = s.latchedPoint pGenFailRun ∧ t.shelf.ramp.kind = .zero ∧
        t.relayOn rFuelRun = false ∧ t.relayOn rMainsBreak = true ∧ t.relayOn rGenMake = false

/-- R91, R92, R81, R83: the gap timer makes the other feed, while the controller has nothing to act on: GEN_FEED for a
generator in ONLOAD, and MAINS_FEED. The two relays, the present source and a walk-in from 0 to the target on that
source follow, by the rating and the gen_dc_limit in force since the last poll cycle completion (R81); the controller's
record stands. -/
def Obligations.ChangeoverCompletes : Prop :=
  ∀ (s : State) (x : Timer), s.powered = true → s.mains.gapTimer = some x → s.engineQuiet = true →
    s.gen.state ≠ .idling →
    let now := max s.ms x.due
    let limit := min s.shelf.iDemand (s.energizedCount * s.shelf.inForce.rating)
    let interval := s.setting 0x0305 * 1000 / 16
    let walkin := fun (target : Nat) => if interval = 0 then (⟨.walkin, 0, target, 16, 0, none⟩ : Ramp)
      else ⟨.walkin, 0, target, 0, interval, some ⟨now, now + interval⟩⟩
    (s.mains.changeover = .toGen → s.gen.state.onload = true →
      ∃ t, exec .changeoverGapTimerExpiry s = .next t ∧
        t.mains = { s.mains with changeover := .genFeed, gapTimer := none, source := .generator } ∧ t.gen = s.gen ∧
        t.shelf = { s.shelf with ramp := walkin (min limit s.shelf.inForce.genLimit) } ∧
        t.relayOn rMainsBreak = true ∧ t.relayOn rGenMake = true ∧ t.relayOn rFuelRun = s.relayOn rFuelRun ∧
        t.relayOn rCrank = s.relayOn rCrank ∧ t.ms = now ∧ t.settings = s.settings) ∧
    (s.mains.changeover = .toMains →
      ∃ t, exec .changeoverGapTimerExpiry s = .next t ∧
        t.mains = { s.mains with
          changeover := .mainsFeed, gapTimer := none, source := if s.mains.qualified then .grid else .none } ∧
        t.gen = s.gen ∧ t.shelf = { s.shelf with ramp := walkin limit } ∧
        t.relayOn rMainsBreak = false ∧ t.relayOn rGenMake = false ∧ t.relayOn rFuelRun = s.relayOn rFuelRun ∧
        t.relayOn rCrank = s.relayOn rCrank ∧ t.ms = now ∧ t.settings = s.settings)

/-- R99, R101, R102, R104: the end of a run. The exercise timer stops an exercise COMPLETED by DURATION, into
COOLDOWN; the cool-down timer cuts the fuel, into RUNDOWN; an engine still running at the end of RUNDOWN is a stop
failure and a lockout. The retry timer makes GEN_FAIL_START NORMAL, which ends the lockout it alone holds; with
another failure point standing it does nothing. -/
def Obligations.StopTimersExpire : Prop :=
  ∀ (s : State) (x : Timer) (r : OpRec), s.powered = true →
    let now : State := { s with ms := max s.ms x.due }
    let gone := fun (st : GenState) (timer : Option Timer) => { s.gen with
      state := st, timer := timer, window := none, exercise := none }
    let beside := fun (t : State) => t.besideEvaluation = { now with gen := t.gen }.besideEvaluation
    (s.gen.state = .idling → s.gen.exercise = some x → s.gen.stop = none → s.running = true → s.faultInput = false →
      s.setting 0x0406 ≠ 0 → s.slots.get sGenerator = some r → r.state = .running →
      ∃ t, exec .exerciseTimerExpiry s = .next t ∧
        t.gen = { gone .cooldown (some ⟨now.ms, now.ms + s.setting 0x0406 * 1000⟩) with
          stop := some ⟨.duration, .completed, .none⟩ } ∧
        t.slots.get sGenerator =
          some { r with state := .stopping, termination := some .completed, cause := some .none } ∧
        t.relayOn rFuelRun = true ∧ beside t) ∧
    (s.gen.state = .cooldown → s.gen.timer = some x → s.running = true →
      ∃ t, exec .cooldownTimerExpiry s = .next t ∧
        t.gen = { gone .rundown (some ⟨now.ms, now.ms + 60000⟩) with target := .off } ∧
        t.slots.get sGenerator = s.slots.get sGenerator ∧ t.relayOn rFuelRun = false ∧ beside t) ∧
    (s.gen.state = .rundown → s.gen.timer = some x → s.running = true → s.masked pGenFailStop = false →
      s.slots.get sGenerator = some r → r.occupied = true →
      let causes := { s.gen.causes with stop := true }
      ∃ t, exec .rundownTimerExpiry s = .next t ∧
        t.gen = { gone .lockout none with
          stop := none, kept := none, causes := causes, lockoutAt := now.ms, retry := none } ∧
        t.points.get pGenFailStop = now.latchedPoint pGenFailStop ∧
        (∃ r', t.slots.get sGenerator = some r' ∧ r'.state = .done ∧ r'.termination = some .aborted ∧
          r'.cause = some .fault) ∧ t.relayOn rFuelRun = false ∧ beside t) ∧
    (s.gen.retry = some x →
      let others := (s.points.get pGenFailRun).state = .normal ∧ (s.points.get pGenFailStop).state = .normal
      (¬ others → exec .retryTimerExpiry s = .next { now with gen := { s.gen with retry := none } }) ∧
      (others → s.gen.state = .lockout → (s.points.get pGenFailStart).state ≠ .normal → s.mains.qualified = true →
        s.running = false → ∃ t, exec .retryTimerExpiry s = .next t ∧
          t.gen = { gone .off none with causes := ⟨false, false, false⟩, retry := none } ∧
          (t.points.get pGenFailStart).state = .normal ∧ t.sched.outcome = .notConsidered 3 ∧ beside t))

/-- R107, R108, R109, R110, R111, R115, R116, R117: a scheduler evaluation. The written fuel_reserve and fuel_hyst take
effect, and the estimate, the reserve and the latch are brought up to date. While the engine is in a run, in LOCKOUT, or the grid is qualified, no start is considered; a run
whose stop condition holds after its minimum time is unloaded. With the engine in OFF, no grid and no test, LVD_WARN
starts a run for EMERGENCY whatever the gates say, no reason is NO_REASON, and low bus voltage under an active reserve
is GATED. That the outcome reads STARTED after the evaluation that the start itself makes is the model's choice,
notes/assumptions/13.md. -/
def Obligations.EvaluationMade : Prop :=
  ∀ s : State, s.powered = true →
    let now : State := { s with evalCount := s.evalCount + 1, ms := max s.ms ((s.evalCount + 1) * 10000) }
    let fuel := s.meas.channels.get cFuelL
    let counted : Scheduler := match fuel.status, fuel.value with
      | .valid, some l => { s.sched with estimate := l.toNat * 10, loadedS := 0, runningS := 0 }
      | _, _ => { s.sched with
          estimate := s.sched.estimate -
            (s.sched.loadedS / 60 * s.setting 0x050A + s.sched.runningS / 60 * s.setting 0x050B)
          loadedS := s.sched.loadedS % 60, runningS := s.sched.runningS % 60 }
    let reserve := if s.sched.reserve
      then decide (counted.estimate < s.setting 0x050C + s.setting 0x050D) || s.active iFuelLow
      else decide (counted.estimate ≤ s.setting 0x050C) || s.active iFuelLow
    let latch := s.sched.latch && !(match s.minSocC with
      | some m => decide (s.setting 0x0500 + 100 ≤ m)
      | none => false)
    let sched := fun (d : Decision) => { counted with
      reserve := reserve, latch := latch, evaluated := true, lastEval := now.siteSeconds, outcome := d
      levels := s.fuelLevels }
    let stopsNow := s.genKind .run && s.gen.state == .onloadRunning && decide (s.setting 0x0407 * 60 ≤ s.gen.onload)
    let idle := s.gen.state = .off ∧ s.running = false ∧ s.mains.qualified = false ∧ s.occupied sTest = false
    ∃ t, exec .schedulerEvaluation s = .next t ∧
      (s.gen.state ≠ .off ∨ s.mains.qualified = true →
        t.sched = sched (.notConsidered (if s.gen.state.inRun then 1 else if s.gen.state = .lockout then 2 else 3))) ∧
      (s.gen.state ≠ .off ∨ s.mains.qualified = true → stopsNow = false →
        t.gen = s.gen ∧ t.slots.get sGenerator = s.slots.get sGenerator ∧ t.besideEvaluation = now.besideEvaluation) ∧
      (∀ r, s.slots.get sGenerator = some r → r.state = .running → stopsNow = true → s.gen.stop = none →
        let charged := match s.minSoc with | some m => decide (s.setting 0x0501 ≤ m) | none => false
        let float := s.charge.regime == .float
        let stopped := fun (c : StopCode) =>
          t.gen = { s.gen with state := .onloadUnloading, stop := some ⟨c, .completed, .none⟩ } ∧
          t.shelf.ramp.kind = .unload ∧
          t.slots.get sGenerator =
            some { r with state := .stopping, termination := some .completed, cause := some .none }
        ((r.reason = some .lowCharge ∨ r.reason = some .lowVoltage ∨ r.reason = some .emergency) →
          charged || float → stopped .condition) ∧
        (r.reason = some .cycle → float = true → stopped .condition) ∧
        (r.reason = some .cycle → float = false → t.gen = s.gen) ∧
        ∀ m, r.reason = some .host → r.args = [m + 1] → (m + 1) * 60 ≤ s.gen.onload → stopped .duration) ∧
      (idle → s.watch wLvdWarn = true → s.setting 0x0400 ≠ 0 →
        t.gen.state = .prestart ∧ t.sched.outcome = .started .emergency ∧
        ∃ r, t.slots.get sGenerator = some r ∧ r.kind = .run ∧ r.origin = .schedule ∧ r.reason = some .emergency ∧
          r.args = [0]) ∧
      (idle → s.watch wLvdWarn = false → s.lowCharge = false → s.fullDue 1 = false →
        (s.watch wGenStartLow = false → t.sched = sched .noReason ∧ t.gen = s.gen) ∧
        (s.watch wGenStartLow = true → reserve = true → t.sched = sched (.gated .lowVoltage .reserve) ∧ t.gen = s.gen))

/-! ## Restarts -/

/-- R178, R49, R89, R106, R119, R138, R163, R165: what a warm restart keeps and what it makes anew. Settings, clock,
charge figures, run minutes, fuel estimate and the allowance stand; the link, the measurements, the inputs and the
mode begin again; the figures of R81 and R117 in force are those of the settings; no charge operation or test is in
flight, and an engine found running is run down. The model's choices: a pending store leaves the copy incomplete
(notes/assumptions/20.md), an accepted RESTART has its record written (notes/assumptions/22.md), a restart without one
keeps it (notes/assumptions/38.md), and an unenrolled string keeps its figures (notes/assumptions/67.md). -/
def Obligations.WarmRestarted : Prop :=
  ∀ (s : State) (contacts : Contacts) (straps : Straps), s.powered = true →
    let found := activeOf (contacts.get iGenRunning) (s.setting 0x0810)
    ∃ t, exec (.warmRestart contacts straps) s = .next t ∧
      t.powered = true ∧ t.ms = 0 ∧ t.tickCount = 0 ∧ t.evalCount = 0 ∧ t.lastRestart = .warm ∧
      t.settings = s.settings ∧ t.loaded = s.loaded ∧ t.settingsFrom = s.settingsFrom ∧ t.clock = s.clock ∧
      t.storePending = false ∧
      t.stored = { s.stored with incomplete := s.stored.incomplete || s.storePending } ∧
      (s.link.restart ≠ .accepting → t.record = s.record) ∧
      t.mode = ⟨.hold, .startup, 0, if s.setting 0x0800 = 0 then none else some ⟨0, s.setting 0x0800 * 1000⟩,
        s.mode.remaining, 0⟩ ∧
      t.link = ⟨straps, .hunt, ⟨false, false, false, false, 0⟩, none, none, .none⟩ ∧
      (∀ i : Fin 16, t.inputs.get i =
        ⟨contacts.get i, activeOf (contacts.get i) (s.setting (0x0810 + i.val)), false, 0, none, 0⟩) ∧
      (∀ c : Fin 20, (t.meas.channels.get c).value = none ∧ (t.meas.channels.get c).age = 65535 ∧
        (t.meas.channels.get c).status = if channelEnabled s.settings c then .noData else .disabled) ∧
      (∀ n : Fin 4, (t.strings.get n).q = (s.strings.get n).q ∧ (t.strings.get n).u = (s.strings.get n).u ∧
        (t.strings.get n).full = (s.strings.get n).full ∧ (t.strings.get n).sinceFull = (s.strings.get n).sinceFull ∧
        (t.strings.get n).phase = .isolated ∧ (t.strings.get n).tail = 0 ∧ (t.strings.get n).lastI = none) ∧
      t.charge.regime = .noSource ∧ t.charge.eqElapsed = s.charge.eqElapsed ∧
      (∀ p : Fin 12, (t.shelf.modules.get p).runMinutes = (s.shelf.modules.get p).runMinutes ∧
        t.moduleState p = if s.moduleEnrolled p then .unpolled else .notFitted) ∧
      t.shelf.rotMinutes = s.shelf.rotMinutes ∧ t.sched.estimate = s.sched.estimate ∧ t.sched.latch = false ∧
      t.shelf.inForce = s.shelfFigures ∧ t.sched.levels = s.fuelLevels ∧
      t.mains = ⟨false, .none, .mainsFeed, none⟩ ∧ t.occupied sCharge = false ∧ t.occupied sTest = false ∧
      (found = false → t.occupied sGenerator = false ∧
        t.gen.state = if (s.points.get pGenFailStart).state = .normal ∧ (s.points.get pGenFailRun).state = .normal ∧
          (s.points.get pGenFailStop).state = .normal then .off else .lockout) ∧
      (found = true → t.gen.state = .rundown ∧ t.gen.timer = some ⟨0, 60000⟩ ∧
        ∃ r, t.slots.get sGenerator = some r ∧ r.state = .stopping ∧ r.termination = some .aborted ∧
          r.cause = some .restart)

/-- R177, R28, R47, R118, R163, R165, R169: what a cold restart makes, with or without power before it: the settings
of a good stored copy or the defaults, the allowance of a good persistence record or allowance_min, a mode of HOLD by
STARTUP, a new log that opens with RESTART and MODE, no clock, no operation but an engine found running. With neither
image good, a healthy plant and open straps it leaves the state after reset. The model's choices: those contacts and
straps (notes/assumptions/8.md), a store cut short leaving the copy incomplete (notes/assumptions/20.md), RESTART and
MODE as the first two entries (notes/assumptions/36.md), and the restored charge of a string not enrolled now
(notes/assumptions/67.md). -/
def Obligations.ColdRestarted : Prop :=
  (∀ (s : State) (contacts : Contacts) (straps : Straps),
    let stored : StoredCopy := { s.stored with incomplete := s.stored.incomplete || s.storePending }
    let st := if stored.good then stored.values else []
    let remaining := if s.record.good then min s.record.items.remaining (getSetting st 0x0801) else getSetting st 0x0801
    ∃ t, exec (.coldRestart contacts straps) s = .next t ∧
      t.powered = true ∧ t.ms = 0 ∧ t.lastRestart = .cold ∧ t.settings = st ∧ t.loaded = st ∧ t.stored = stored ∧
      t.record = s.record ∧ t.storePending = false ∧ t.pending = s.pending ∧
      t.settingsFrom = (if stored.good then .stored else .defaults) ∧ t.clock = none ∧
      t.mode = ⟨.hold, .startup, 0, if getSetting st 0x0800 = 0 then none
        else some ⟨0, getSetting st 0x0800 * 1000⟩, remaining, 0⟩ ∧
      t.link = ⟨straps, .hunt, ⟨false, false, false, false, 0⟩, none, none, .none⟩ ∧
      t.log.take 2 = [⟨1, 0, .restart, 0, .part, none⟩, ⟨2, 0, .mode, 1, .part, some 2⟩] ∧
      (∀ k : Fin 4, k ≠ sGenerator → t.slots.get k = none) ∧
      t.shelf.inForce = t.shelfFigures ∧ t.sched.levels = t.fuelLevels ∧
      (∀ p : Fin 12, (t.shelf.modules.get p).runMinutes =
        if s.record.good then s.record.items.runMinutes.get p else 0) ∧
      (∀ n : Fin 4, (t.strings.get n).q = if s.record.good && (s.record.items.strings.get n).enrolled
        then min (s.record.items.strings.get n).q (effectiveCapacity st n 250) else effectiveCapacity st n 250 / 2)) ∧
  ∀ s : State, s.record.good = false → (s.stored.good = false ∨ s.storePending = true) →
    exec (.coldRestart Contacts.healthy ⟨false, false⟩) s = .next
      { State.reset with
        pending := s.pending, fresh := s.fresh, record := s.record
        stored := { s.stored with incomplete := s.stored.incomplete || s.storePending } }

/-! ## What every step keeps -/

/-- R155: the event log stays in sequence, with at most 512 entries. -/
def Obligations.LogStaysOrdered : Prop :=
  ∀ s t : State, s.logOk = true → step s = .next t → t.logOk = true

/-- R120, R24: with power, each contactor's relay and drive stay those its claims decide. -/
def Obligations.ContactorsFollowClaims : Prop :=
  ∀ s t : State, s.contactorsOk → step s = .next t → t.contactorsOk

/-- R91, R93: with power, FUEL_RUN and CRANK stay as the controller state has them, and MAINS_BREAK and GEN_MAKE as the
changeover state has them. -/
def Obligations.EngineAndFeedRelaysFollow : Prop :=
  ∀ s t : State, (s.engineRelaysOk → step s = .next t → t.engineRelaysOk) ∧
    (s.feedRelaysOk → step s = .next t → t.feedRelaysOk)

/-- R149, R154: with sound settings, a masked point stays NORMAL, and the three severity relays, once formed, stay
de-energized exactly while an unmasked point of their effective severity stands. -/
def Obligations.AlarmsStayShown : Prop :=
  ∀ s t : State, s.settingsSound → s.maskedOk → s.severityRelaysOk → step s = .next t →
    t.maskedOk ∧ t.severityRelaysOk

/-- R168, R173, R175: the working settings and the stored copy stay in their ranges, keep their relations, and are held in
their one form; and with sound settings the setpoint stays within sp_min and sp_max, Q and U within C_eff, SOC within 1000
and SOC_c within SOC. -/
def Obligations.SettingsAndChargeStayBounded : Prop :=
  ∀ s t : State, s.settingsSound → step s = .next t →
    t.settingsSound ∧ (s.setpointOk → t.setpointOk) ∧ (s.stringsOk → t.stringsOk)

/-- The state after reset meets every invariant above. -/
def Obligations.ResetIsSound : Prop :=
  State.reset.logOk = true ∧ State.reset.contactorsOk ∧ State.reset.engineRelaysOk ∧ State.reset.feedRelaysOk ∧
  State.reset.maskedOk ∧ State.reset.severityRelaysOk ∧ State.reset.settingsSound ∧ State.reset.setpointOk ∧
  State.reset.stringsOk
end

