-- ==== Sys2Proof/Laws/Table.lean ====
section
/-! SUPPORT. Tables: what a read gives after each way of making one. -/

namespace Sys2Proof

variable {α β : Type} {n : Nat}

theorem Table.ext_rows {s t : Table α n} (h : s.rows = t.rows) : s = t := by
  cases s; cases t; simp_all

theorem Table.get_rows (t : Table α n) (i : Fin n) : t.get i = t.rows[i.val]'(by rw [t.len]; exact i.isLt) := rfl

/-- Two tables with the same rows are one. -/
theorem Table.ext_get {s t : Table α n} (h : ∀ i, s.get i = t.get i) : s = t := by
  apply Table.ext_rows
  apply List.ext_get (by rw [s.len, t.len])
  intro k h1 h2
  have := h ⟨k, by rw [← s.len]; exact h1⟩
  simpa [Table.get_rows] using this

@[simp] theorem Table.get_set_same (t : Table α n) (i : Fin n) (a : α) : (t.set i a).get i = a := by
  simp [Table.get_rows, Table.set]

@[simp] theorem Table.get_set_ne (t : Table α n) {i j : Fin n} (h : j ≠ i) (a : α) : (t.set i a).get j = t.get j := by
  have : i.val ≠ j.val := fun e => h (Fin.ext e.symm)
  simp [Table.get_rows, Table.set, this]

theorem Table.get_set (t : Table α n) (i j : Fin n) (a : α) :
    (t.set i a).get j = if j = i then a else t.get j := by
  split
  · next h => subst h; simp
  · next h => simp [h]

@[simp] theorem Table.set_get (t : Table α n) (i : Fin n) : t.set i (t.get i) = t := by
  apply Table.ext_get
  intro j
  rw [Table.get_set]
  split
  · next h => rw [h]
  · rfl

@[simp] theorem Table.get_modify_same (t : Table α n) (i : Fin n) (f : α → α) :
    (t.modify i f).get i = f (t.get i) := by
  simp [Table.modify]

@[simp] theorem Table.get_modify_ne (t : Table α n) {i j : Fin n} (h : j ≠ i) (f : α → α) :
    (t.modify i f).get j = t.get j := by
  simp [Table.modify, h]

theorem Table.get_modify (t : Table α n) (i j : Fin n) (f : α → α) :
    (t.modify i f).get j = if j = i then f (t.get j) else t.get j := by
  unfold Table.modify
  rw [Table.get_set]
  split
  · next h => rw [h]
  · rfl

@[simp] theorem Table.get_map (t : Table α n) (f : α → β) (i : Fin n) : (t.map f).get i = f (t.get i) := by
  simp [Table.get_rows, Table.map]

@[simp] theorem Table.get_ofFn (f : Fin n → α) (i : Fin n) : (Table.ofFn f).get i = f i := by
  simp [Table.get_rows, Table.ofFn]

@[simp] theorem Table.get_fill (a : α) (i : Fin n) : (Table.fill n a).get i = a := by
  simp [Table.get_rows, Table.fill]

@[simp] theorem mem_indices (i : Fin n) : i ∈ indices n := List.mem_finRange i

end Sys2Proof
end

