-- ==== Sys2Proof/Laws/Kept.lean ====
section
/-! SUPPORT. What every operation of a block keeps, said once: a property of the work at hand that a handful of basic
changes keep (`Kept`) is kept by every operation built from them, and by the whole settling of a command's consequences. -/

namespace Sys2Proof.Machine

/-! ## The basic changes -/

/-- What the blocks change only through a basic change of `Kept`: everything but the agenda, the fresh counter, the shelf,
the scheduler record, the LVD stage, the slots other than TEST, the test, and the parts of the charge, mains and generator
records other than the setpoint, the changeover state and the controller state. -/
def State.held (s : State) : State :=
  { s with
    fresh := 0
    charge := { RegimeRec.start with setpoint := s.charge.setpoint }
    shelf := Shelf.start
    mains := { Mains.start with changeover := s.mains.changeover }
    gen := { Generator.start with state := s.gen.state }
    sched := Scheduler.start
    lvd := .normal
    slots := (Table.fill 4 none).set sTest (s.slots.get sTest)
    test := TestRec.start }

/-- The controller enters a state, with the two relays of that state (R93). -/
def genCore (g : Generator) (w : Work) : Work :=
  { w with gen := g } |> setRelay rFuelRun g.state.fuelOn |> setRelay rCrank (g.state == .crank)

/-- The changeover enters a state, with its two relays (R91). -/
def changeoverCore (m : Mains) (w : Work) : Work :=
  { w with mains := m } |> setRelay rMainsBreak m.changeover.mainsBroken |> setRelay rGenMake m.changeover.genMade

/-- Target `t` is decided from the record `r`, with its relay (R120). -/
def targetCore (t : Fin 5) (r : Target) (w : Work) : Work :=
  let w' : Work := { w with targets := w.targets.set t (decidedTarget w.toState r) }
  if r.decision.2 == r.drive then w' else setRelay (rTarget t) (r.decision.2 == .opened) w'

/-- The points whose raw condition no consequence of a command hands: those of the scanner, the inputs, the grid and the
mode supervisor. -/
def handedByCommands (p : Fin 41) : Bool :=
  p == pBusHigh || p == pBusLow || p == pLvdWarn || decide (9 ≤ p.val ∧ p.val ≤ 12) || p == pGridFail || p == pDoor ||
  p == pSmoke || p == pHand || p == pUser || p == pHostSilent || p == pAllowanceOut || p == pSensorFault

theorem thermal_handed (n : Fin 4) : handedByCommands (pStringThermal n) = false := by revert n; decide

theorem stringFault_handed (n : Fin 4) : handedByCommands (pStringFault n) = false := by revert n; decide

/-- A record that a slot may hold is occupied. -/
def occupies (r : Option OpRec) : Bool := match r with | some r => r.occupied | none => false

/-- A property kept by the basic changes of one command's consequences. -/
structure Kept (P : Work → Prop) : Prop where
  free : ∀ {v w : Work}, v.toState.held = w.toState.held → P w → P v
  log : ∀ {w : Work} (k : LogKind) (n : Nat) (o : Origin) (d : Option Int), P w → P (writeLog k n o d w)
  gen : ∀ {w : Work} (g : Generator), P w → P (genCore g w)
  phase : ∀ {w : Work} (g : Generator), g.state.fuelOn = w.gen.state.fuelOn →
    (g.state == .crank) = (w.gen.state == .crank) → P w → P { w with gen := g }
  changeover : ∀ {w : Work} (m : Mains), P w → P (changeoverCore m w)
  target : ∀ {w : Work} (t : Fin 5) (r : Target), r.drive = (w.targets.get t).drive →
    r.hand = (w.targets.get t).hand → r.host = (w.targets.get t).host → P w → P (targetCore t r w)
  check : ∀ {w : Work} (t : Fin 5) (c : Check) (x : Option Timer), P w → P (setCheck t c x w)
  point : ∀ {w : Work} (p : Fin 41) (x : Point), x.state = (w.points.get p).state →
    x.escalated = (w.points.get p).escalated → (x.raw = (w.points.get p).raw ∨ handedByCommands p = false) → P w →
    P { w with points := w.points.set p x }
  slot : ∀ {w : Work} (k : Fin 4) (r : Option OpRec), (k = sTest → occupies r = true → w.occupied sTest = true) → P w →
    P { w with slots := w.slots.set k r }
  move : ∀ {w : Work} (p : Fin 41) (st : PointState),
    w.masked p = false ∨ st = .normal ∨ (w.points.get p).state ≠ .normal → P w → P (movePoint p st w)
  string : ∀ {w : Work} (n : Fin 4) (r : StringRec), ((w.strings.get n).figuresOk → r.figuresOk) → P w →
    P { w with strings := w.strings.set n r }
  setpoint : ∀ {w : Work}, P w → P (formSetpoint w)

/-- A property kept also by the changes that the owner of a setting or of an input makes: the hand and host claims, the
measurements, the inputs, the allowance and the supervision timer, and the raw condition of any point. -/
structure KeptByOwners (P : Work → Prop) : Prop extends Kept P where
  hands : ∀ {w : Work} (t : Fin 5) (r : Target), r.drive = (w.targets.get t).drive → P w → P (targetCore t r w)
  meas : ∀ {w : Work} (m : Measurement), P w → P { w with meas := m }
  inputs : ∀ {w : Work} (i : Table Input 16), P w → P { w with inputs := i }
  mode : ∀ {w : Work} (m : ModeRec), m.mode = w.mode.mode → m.cause = w.mode.cause → m.entered = w.mode.entered →
    (m.timer = w.mode.timer ∨ m.timer = w.supervision) → P w → P { w with mode := m }
  raw : ∀ {w : Work} (p : Fin 41) (b : Bool), P w →
    P { w with points := w.points.set p { w.points.get p with raw := b } }

variable {P : Work → Prop}

namespace Kept

theorem raise (hP : Kept P) {w : Work} (e : Event) (h : P w) : P (raise e w) := hP.free (by rfl) h

theorem onlyIf {w : Work} (c : Bool) (f : Work → Work) (hf : P w → P (f w)) (h : P w) : P (onlyIf c f w) := by
  unfold Machine.onlyIf
  split
  · exact hf h
  · exact h

theorem forEach {α : Type} (l : List α) (f : α → Work → Work) (hf : ∀ a w, P w → P (f a w)) {w : Work} (h : P w) :
    P (forEach l f w) := by
  unfold Machine.forEach
  induction l generalizing w with
  | nil => exact h
  | cons a rest ih => exact ih (hf a w h)

/-! ## Points -/

theorem makeNormal (hP : Kept P) {w : Work} (p : Fin 41) (o : Origin) (h : P w) : P (makeNormal p o w) := by
  unfold Machine.makeNormal
  split
  · exact h
  · exact hP.move _ _ (.inr (.inl rfl)) (hP.log _ _ _ _ h)

theorem activate (hP : Kept P) {w : Work} (p : Fin 41) (h : P w) : P (activate p w) :=
  hP.point _ _ rfl rfl (.inl rfl) h

theorem conditionRose (hP : Kept P) {w : Work} (p : Fin 41) (o : Origin) (d : Option Int) (h : P w) :
    P (conditionRose p o d w) := by
  have ha := hP.activate p h
  unfold Machine.conditionRose
  dsimp only
  split
  · exact ha
  · next hm =>
    have hm : (Machine.activate p w).masked p = false := by simpa using hm
    split
    · exact hP.move _ _ (.inl hm) (hP.log _ _ _ _ ha)
    · exact hP.move _ _ (.inl hm) (hP.log _ _ _ _ ha)
    · exact ha
    · exact ha

theorem conditionFell (hP : Kept P) {w : Work} (p : Fin 41) (d : Option Int) (h : P w) : P (conditionFell p d w) := by
  unfold Machine.conditionFell
  split
  · exact h
  · next hm =>
    have hm : w.masked p = false := by simpa using hm
    split
    · split
      · exact hP.move _ _ (.inl hm) (hP.log _ _ _ _ h)
      · exact hP.move _ _ (.inl hm) (hP.log _ _ _ _ h)
    · exact hP.move _ _ (.inl hm) (hP.log _ _ _ _ h)
    · exact h
    · exact h

/-- A hand of a condition, from the change of the raw condition on. -/
theorem handCondition_of_raw (hP : Kept P) {w : Work} (p : Fin 41) (raw : Bool) (d : Int)
    (hr : P { w with points := w.points.set p { w.points.get p with raw := raw } }) (h : P w) :
    P (handCondition p raw d w) := by
  unfold Machine.handCondition
  dsimp only
  split
  · exact h
  · split
    · exact hr
    · split
      · exact hP.conditionRose _ _ _ hr
      · exact hP.conditionFell _ _ hr

theorem handCondition (hP : Kept P) {w : Work} (p : Fin 41) (raw : Bool) (d : Int) (hp : handedByCommands p = false)
    (h : P w) : P (handCondition p raw d w) :=
  hP.handCondition_of_raw p raw d (hP.point p { w.points.get p with raw := raw } rfl rfl (.inr hp) h) h

theorem handConditionFree (hP : Kept P) {w : Work} (p : Fin 41) (raw : Bool) (hp : handedByCommands p = false)
    (h : P w) : P (handConditionFree p raw w) := by
  unfold Machine.handConditionFree
  split
  · exact h
  · exact hP.free (by rfl) (hP.handCondition p raw (Config.freeDetail w.fresh).toInt hp h)

theorem momentary (hP : Kept P) {w : Work} (p : Fin 41) (o : Origin) (d : Int) (h : P w) : P (momentary p o d w) := by
  have ha := hP.activate p h
  unfold Machine.momentary
  dsimp only
  split
  · exact ha
  · next hm =>
    have hm : (Machine.activate p w).masked p = false := by simpa using hm
    exact hP.move _ _ (.inl hm) (hP.log _ _ _ _ ha)

/-! ## Slots -/

theorem changeOp (hP : Kept P) {w : Work} (k : Fin 4) (f : OpRec → OpRec)
    (hf : ∀ r, (f r).occupied = true → r.occupied = true) (h : P w) : P (changeOp k f w) := by
  unfold Machine.changeOp
  split
  · next r hr =>
    refine hP.slot k (some (f r)) ?_ h
    intro hk ho
    subst hk
    unfold State.occupied
    rw [hr]
    exact hf r ho
  · exact h

theorem beginOp (hP : Kept P) {w : Work} (k : Fin 4) (kind : OpKind) (o : Origin) (r : Option Reason) (a : List Nat)
    (hk : k ≠ sTest) (h : P w) : P (beginOp k kind o r a w) := by
  unfold Machine.beginOp
  exact hP.log _ _ _ _ (hP.slot k _ (fun e => absurd e hk) h)

theorem stopOp (hP : Kept P) {w : Work} (k : Fin 4) (t : Termination) (c : Cause) (h : P w) : P (stopOp k t c w) := by
  refine hP.changeOp _ _ ?_ h
  intro r hr
  by_cases ho : r.occupied = true
  · exact ho
  · rw [if_neg ho] at hr
    exact hr

theorem finishOp (hP : Kept P) {w : Work} (k : Fin 4) (t : Termination) (c : Cause) (r : OpResult) (h : P w) :
    P (finishOp k t c r w) := by
  unfold Machine.finishOp
  split
  · refine hP.log _ _ _ _ (hP.changeOp _ _ ?_ h)
    intro x hx
    simp [OpRec.occupied] at hx
  · exact h

/-! ## The contactor arbiter -/

theorem noteService (hP : Kept P) {w : Work} (s : State) (h : P w) : P (noteService s w) :=
  forEach _ _ (fun _ _ hw => onlyIf _ _ (hP.raise _) hw) h

/-- A claim is a decision of its target from the changed record, with its relay, its entry and what it makes of service. -/
theorem claim_of_core (hP : Kept P) {w : Work} (t : Fin 5) (f : Target → Target)
    (hc : P (targetCore t (f (w.targets.get t)) w)) : P (claim t f w) := by
  have heq : ({ w with targets := (w.targets.modify t f).set t (decidedTarget w.toState (f (w.targets.get t))) } : Work)
      = { w with targets := w.targets.set t (decidedTarget w.toState (f (w.targets.get t))) } := by
    congr 2
    apply Table.ext_get
    intro i
    simp only [Table.get_set]
    split
    · rfl
    · next hi => simp [hi]
  unfold Machine.claim Machine.decideTarget
  unfold targetCore at hc
  simp only [Table.get_modify_same] at hc ⊢
  split
  · next he => rw [if_pos he] at hc; exact heq ▸ hc
  · next he =>
    rw [if_neg he] at hc
    apply hP.noteService
    apply hP.log
    exact heq ▸ hc

theorem claim (hP : Kept P) {w : Work} (t : Fin 5) (f : Target → Target)
    (hf : ∀ r, (f r).drive = r.drive ∧ (f r).hand = r.hand ∧ (f r).host = r.host) (h : P w) : P (claim t f w) :=
  hP.claim_of_core t f (hP.target t _ (hf _).1 (hf _).2.1 (hf _).2.2 h)

theorem formService (hP : Kept P) {w : Work} (t : Fin 5) (h : P w) : P (formService t w) := by
  unfold Machine.formService
  dsimp only
  split
  · exact h
  · exact hP.claim _ _ (fun _ => ⟨rfl, rfl, rfl⟩) h

theorem assertThermal (hP : Kept P) {w : Work} (n : Fin 4) (d : Int) (h : P w) : P (assertThermal n d w) := by
  unfold Machine.assertThermal
  exact hP.claim _ _ (fun _ => ⟨rfl, rfl, rfl⟩) (hP.handCondition _ _ _ (thermal_handed n) (hP.raise _ h))

theorem withdrawThermal (hP : Kept P) {w : Work} (n : Fin 4) (h : P w) : P (withdrawThermal n w) := by
  unfold Machine.withdrawThermal
  split
  · exact h
  · exact hP.handConditionFree _ _ (thermal_handed n) (hP.claim _ _ (fun _ => ⟨rfl, rfl, rfl⟩) h)

theorem testThermal (hP : Kept P) {w : Work} (n : Fin 4) (h : P w) : P (testThermal n w) := by
  unfold Machine.testThermal
  split
  · exact h
  · split
    · exact hP.assertThermal _ _ h
    · exact h

theorem releaseThermal (hP : Kept P) {w : Work} (n : Fin 4) (h : P w) : P (releaseThermal n w) := by
  unfold Machine.releaseThermal
  split
  · exact hP.withdrawThermal _ h
  · exact h

theorem thermalWork (hP : Kept P) {w : Work} (h : P w) : P (thermalWork w) := by
  refine forEach _ _ (fun n v hv => ?_) h
  split
  · exact hP.releaseThermal n hv
  · exact hP.testThermal n hv

theorem formLvdClaim (hP : Kept P) {w : Work} (t : Fin 5) (h : P w) : P (formLvdClaim t w) := by
  unfold Machine.formLvdClaim
  dsimp only
  split
  · exact h
  · exact hP.claim _ _ (fun _ => ⟨rfl, rfl, rfl⟩) h

theorem toStage (hP : Kept P) {w : Work} (g : LvdStage) (h : P w) : P (toStage g w) := by
  unfold Machine.toStage
  refine forEach _ _ (fun t v hv => hP.formLvdClaim t hv) ?_
  refine hP.handCondition _ _ _ rfl (hP.handCondition _ _ _ rfl (hP.raise _ (hP.log _ _ _ _ (hP.free (by rfl) h))))

theorem neldOpenRow (hP : Kept P) {w : Work} (h : P w) : P (neldOpenRow w) := by
  unfold Machine.neldOpenRow
  split
  · exact hP.toStage _ h
  · exact h

theorem lvdOpenRow (hP : Kept P) {w : Work} (h : P w) : P (lvdOpenRow w) := by
  unfold Machine.lvdOpenRow
  split
  · exact h
  · exact hP.toStage _ h

theorem recloseRow (hP : Kept P) {w : Work} (h : P w) : P (recloseRow w) := by
  unfold Machine.recloseRow
  split
  · exact hP.toStage _ h
  · exact h

theorem lvdWork (hP : Kept P) {w : Work} (b : Measurement) (h : P w) : P (lvdWork b w) := by
  unfold Machine.lvdWork
  exact onlyIf _ _ hP.recloseRow (onlyIf _ _ hP.lvdOpenRow (onlyIf _ _ hP.neldOpenRow h))

theorem auxMoved (hP : Kept P) {w : Work} (t : Fin 5) (h : P w) : P (auxMoved t w) := by
  unfold Machine.auxMoved
  split
  · exact h
  · split
    · exact h
    · exact hP.check _ _ _ h
  · split
    · exact hP.check _ _ _ h
    · exact h
  · split
    · exact hP.check _ _ _ h
    · exact h

theorem setMarker (hP : Kept P) {w : Work} (n : Fin 4) (h : P w) : P (setMarker n w) := by
  unfold Machine.setMarker
  split
  · exact h
  · exact hP.formService _ (hP.handConditionFree _ _ (stringFault_handed n) (hP.noteService _ (hP.string _ _ (fun hs => hs) h)))

theorem contactorFault (hP : Kept P) {w : Work} (t : Fin 5) (h : P w) : P (contactorFault t w) := by
  have hm := hP.momentary pContactorFault .part (t.val + 1) (hP.check t .faulted none h)
  unfold Machine.contactorFault
  simp only
  split
  · exact hP.setMarker _ hm
  · exact hm

theorem feedbackExpiry (hP : Kept P) {w : Work} (t : Fin 5) (h : P w) : P (feedbackExpiry t w) := by
  unfold Machine.feedbackExpiry
  split
  · split
    · exact hP.check _ _ _ h
    · exact hP.contactorFault _ h
  · exact hP.contactorFault _ h
  · exact h
  · exact h

theorem clearMarker (hP : Kept P) {w : Work} (n : Fin 4) (h : P w) : P (clearMarker n w) := by
  unfold Machine.clearMarker
  refine hP.formService _ ?_
  have h1 : P { w with strings := w.strings.modify n fun r => { r with fault := false } } :=
    hP.string n { w.strings.get n with fault := false } (fun hs => hs) h
  exact hP.point (w := { w with strings := w.strings.modify n fun r => { r with fault := false } }) (pStringFault n)
    { w.points.get (pStringFault n) with raw := false } rfl rfl (.inr (stringFault_handed n)) h1

end Kept

namespace KeptByOwners

theorem claimAny (hP : KeptByOwners P) {w : Work} (t : Fin 5) (f : Target → Target) (hf : ∀ r, (f r).drive = r.drive)
    (h : P w) : P (claim t f w) :=
  hP.claim_of_core t f (hP.hands t _ (hf _) h)

theorem handAny (hP : KeptByOwners P) {w : Work} (p : Fin 41) (raw : Bool) (d : Int) (h : P w) :
    P (Machine.handCondition p raw d w) :=
  hP.handCondition_of_raw p raw d (hP.raw p raw h) h

theorem handMoved (hP : KeptByOwners P) {w : Work} (h : P w) : P (handMoved w) := by
  unfold Machine.handMoved
  refine hP.handAny _ _ _ (Kept.forEach _ _ ?_ h)
  intro t v hv
  exact hP.claimAny _ _ (fun _ => rfl) hv

theorem hostClaim (hP : KeptByOwners P) {w : Work} (t : Fin 5) (c : Option Drive) (h : P w) : P (hostClaim t c w) := by
  unfold Machine.hostClaim
  split
  · exact h
  · exact hP.claimAny _ _ (fun _ => rfl) h

theorem withdrawHost (hP : KeptByOwners P) {w : Work} (h : P w) : P (withdrawHost w) := by
  unfold Machine.withdrawHost
  refine Kept.forEach _ _ ?_ h
  intro t v hv
  exact hP.claimAny _ _ (fun _ => rfl) hv

end KeptByOwners

end Sys2Proof.Machine
end

