-- ==== Sys2Proof/Laws/KeptBlocks.lean ====
section
/-! SUPPORT. What the regime, the shelf, the test, the source supervisor, the generator controller and the scheduler keep,
and the settling of a command's consequences. -/

namespace Sys2Proof.Machine

variable {P : Work → Prop}

namespace Kept

/-! ## The charge regime -/

theorem changeRegime (hP : Kept P) {w : Work} (r : Regime) (d : Int) (h : P w) : P (changeRegime r d w) := by
  unfold Machine.changeRegime
  exact hP.setpoint (hP.log _ _ _ _ (hP.free (by rfl) h))

theorem endEqualize (hP : Kept P) {w : Work} (t : Termination) (c : Cause) (m : Nat) (h : P w) :
    P (endEqualize t c m w) := by
  unfold Machine.endEqualize
  apply hP.finishOp
  split <;> exact hP.free (by rfl) h

theorem abortEqualize (hP : Kept P) {w : Work} (c : Cause) (h : P w) : P (abortEqualize c w) := by
  unfold Machine.abortEqualize
  apply hP.endEqualize
  split <;> exact hP.changeRegime _ _ h

theorem stopEqualize (hP : Kept P) {w : Work} (h : P w) : P (stopEqualize w) :=
  hP.endEqualize _ _ _ (hP.changeRegime _ _ h)

theorem completeEqualize (hP : Kept P) {w : Work} (h : P w) : P (completeEqualize w) :=
  hP.endEqualize _ _ _ (hP.changeRegime _ _ h)

theorem beginEqualize (hP : Kept P) {w : Work} (o : Origin) (n : Nat) (h : P w) : P (beginEqualize o n w) := by
  unfold Machine.beginEqualize
  exact hP.free (by rfl) (hP.changeRegime .equalize 8 (hP.beginOp sCharge .equalize o none [n] (by decide) h))

theorem scheduledEqualize (hP : Kept P) {w : Work} (h : P w) : P (scheduledEqualize w) := by
  unfold Machine.scheduledEqualize
  split
  · exact hP.beginEqualize _ _ h
  · exact h

theorem leaveNoSource (hP : Kept P) {w : Work} (h : P w) : P (leaveNoSource w) := hP.changeRegime _ _ h

theorem regimePresence (hP : Kept P) {w : Work} (h : P w) : P (regimePresence w) := by
  unfold Machine.regimePresence
  split
  · split
    · exact hP.leaveNoSource h
    · exact h
  · split
    · exact hP.changeRegime _ _ h
    · exact hP.changeRegime _ _ h
    · exact hP.changeRegime _ _ h
    · exact hP.abortEqualize _ h
    · exact h
    · exact h

theorem equalizeSource (hP : Kept P) {w : Work} (h : P w) : P (equalizeSource w) := by
  unfold Machine.equalizeSource
  split
  · exact hP.abortEqualize _ h
  · exact h

theorem regimeMarkerCleared (hP : Kept P) {w : Work} (h : P w) : P (regimeMarkerCleared w) := by
  unfold Machine.regimeMarkerCleared
  split
  · exact hP.changeRegime _ _ h
  · exact h

theorem formTComp (hP : Kept P) {w : Work} (h : P w) : P (formTComp w) := by
  unfold Machine.formTComp
  exact hP.handCondition _ _ _ rfl (hP.free (by rfl) h)

theorem formGuard (hP : Kept P) {w : Work} (h : P w) : P (formGuard w) := by
  unfold Machine.formGuard
  dsimp only
  split
  · exact h
  · exact hP.setpoint (hP.log _ _ _ _ (hP.free (by rfl) h))

theorem equalizeThermal (hP : Kept P) {w : Work} (h : P w) : P (equalizeThermal w) := by
  unfold Machine.equalizeThermal
  split
  · exact hP.abortEqualize _ h
  · exact h

theorem bulkStep (hP : Kept P) {w : Work} (held v : Int) (h : P w) : P (bulkStep held v w) := by
  unfold Machine.bulkStep
  split
  · split
    · exact hP.free (by rfl) h
    · split
      · exact hP.free (by rfl) h
      · exact hP.changeRegime _ _ h
  · exact hP.free (by rfl) h

theorem regimeTransitions (hP : Kept P) {w : Work} (held : Int) (h : P w) : P (regimeTransitions held w) := by
  unfold Machine.regimeTransitions
  split
  · split
    · exact hP.leaveNoSource h
    · exact h
  · split
    · exact hP.changeRegime _ _ h
    · split
      · exact hP.bulkStep _ _ h
      · exact h
  · split
    · exact hP.changeRegime _ _ h
    · split
      · exact hP.changeRegime _ _ h
      · exact h
  · exact h
  · exact h
  · exact h

theorem regimeWork (hP : Kept P) {w : Work} (v : Int) (h : P w) : P (regimeWork v w) := by
  unfold Machine.regimeWork
  have h1 : P (equalizeCounters w) := hP.free (by rfl) h
  exact hP.setpoint (hP.regimeTransitions _ (hP.equalizeThermal (hP.formGuard (hP.formTComp h1))))

theorem absorbExpiry (hP : Kept P) {w : Work} (h : P w) : P (absorbExpiry w) := by
  unfold Machine.absorbExpiry
  exact hP.momentary _ _ _ (hP.changeRegime _ _ h)

theorem absorbMaxWritten (hP : Kept P) {w : Work} (h : P w) : P (absorbMaxWritten w) := by
  unfold Machine.absorbMaxWritten
  split
  · exact h
  · dsimp only
    split
    · exact hP.absorbExpiry h
    · exact hP.free (by rfl) h

theorem releaseRegime (hP : Kept P) {w : Work} (h : P w) : P (releaseRegime w) := by
  have h1 := hP.changeRegime .bulk 11 h
  unfold Machine.releaseRegime
  dsimp only
  split
  · exact h1
  · exact hP.changeRegime _ _ h1

/-! ## The shelf -/

theorem changeModule (hP : Kept P) {w : Work} (p : Fin 12) (f : Module → Module) (h : P w) : P (changeModule p f w) :=
  hP.free (by rfl) h

theorem formRectPoints (hP : Kept P) {w : Work} (p : Fin 12) (h : P w) : P (formRectPoints p w) :=
  hP.handCondition _ _ _ rfl (hP.handCondition _ _ _ rfl h)

theorem enterModule (hP : Kept P) {w : Work} (p : Fin 12) (st : ModuleState) (c : Nat) (o : Origin) (h : P w) :
    P (enterModule p st c o w) := by
  unfold Machine.enterModule
  exact hP.formRectPoints _ (hP.log _ _ _ _ (hP.changeModule _ _ h))

theorem startModule (hP : Kept P) {w : Work} (p : Fin 12) (h : P w) : P (startModule p w) := hP.enterModule _ _ _ _ h

theorem shedModule (hP : Kept P) {w : Work} (p : Fin 12) (h : P w) : P (shedModule p w) := hP.enterModule _ _ _ _ h

theorem startLeastWorn (hP : Kept P) {w : Work} (h : P w) : P (startLeastWorn w) := by
  unfold Machine.startLeastWorn
  split
  · exact hP.startModule _ h
  · exact h

theorem endRotation (hP : Kept P) {w : Work} (t : Termination) (c : Cause) (o : Option RotateOutcome) (h : P w) :
    P (endRotation t c o w) := by
  unfold Machine.endRotation
  split
  · exact h
  · exact hP.finishOp _ _ _ _ (hP.free (by rfl) h)

theorem beginRotation (hP : Kept P) {w : Work} (o : Origin) (h : P w) : P (beginRotation o w) := by
  have h0 : P { w with shelf := { w.shelf with rotMinutes := 0 } } := hP.free (by rfl) h
  have h1 := hP.beginOp sShelf .rotate o none [] (by decide) h0
  unfold Machine.beginRotation
  dsimp only
  split
  · split
    · exact hP.startModule _ (hP.free (by rfl) h1)
    · exact hP.finishOp _ _ _ _ h1
  · exact hP.finishOp _ _ _ _ h1

theorem scheduledRotation (hP : Kept P) {w : Work} (h : P w) : P (scheduledRotation w) := by
  unfold Machine.scheduledRotation
  split
  · exact hP.beginRotation _ h
  · exact h

theorem rotationSwitch (hP : Kept P) {w : Work} (r : Rotation) (h : P w) : P (rotationSwitch r w) := by
  unfold Machine.rotationSwitch
  split
  · exact hP.endRotation _ _ _ (hP.shedModule _ h)
  · exact hP.endRotation _ _ _ h

theorem rotationRetry (hP : Kept P) {w : Work} (r : Rotation) (h : P w) : P (rotationRetry r w) := by
  unfold Machine.rotationRetry
  split
  · split
    · exact hP.startModule _ (hP.free (by rfl) h)
    · exact hP.endRotation _ _ _ h
  · exact hP.endRotation _ _ _ h

theorem replaceModule (hP : Kept P) {w : Work} (p : Fin 12) (h : P w) : P (replaceModule p w) := by
  unfold Machine.replaceModule
  split
  · exact hP.startLeastWorn h
  · split
    · exact hP.rotationRetry _ h
    · split
      · exact hP.endRotation _ _ _ h
      · exact hP.startLeastWorn h

theorem failModule (hP : Kept P) {w : Work} (p : Fin 12) (st : ModuleState) (c : Nat) (h : P w) :
    P (failModule p st c w) := by
  unfold Machine.failModule
  exact onlyIf _ _ (hP.replaceModule p) (hP.enterModule _ _ _ _ h)

theorem moduleOnline (hP : Kept P) {w : Work} (p : Fin 12) (h : P w) : P (moduleOnline p w) := by
  have h1 := hP.enterModule p .online 0 .part h
  unfold Machine.moduleOnline
  dsimp only
  split
  · split
    · exact hP.rotationSwitch _ h1
    · exact h1
  · exact h1

theorem moduleStandby (hP : Kept P) {w : Work} (p : Fin 12) (h : P w) : P (moduleStandby p w) := hP.enterModule _ _ _ _ h

theorem enrolledReply (hP : Kept P) {w : Work} (p : Fin 12) (a : ModuleAnswer) (h : P w) : P (enrolledReply p a w) := by
  unfold Machine.enrolledReply
  split
  · exact hP.moduleOnline _ h
  · exact hP.moduleStandby _ h
  · exact hP.failModule _ _ _ h
  · exact hP.failModule _ _ _ h
  · exact h
  · exact hP.moduleOnline _ h
  · exact h
  · exact hP.failModule _ _ _ h
  · exact h
  · exact hP.failModule _ _ _ h
  · exact hP.failModule _ _ _ h
  · exact hP.changeModule _ _ h
  · have h1 := hP.changeModule p (fun m => { m with good := m.good + 1 }) h
    dsimp only
    split
    · exact hP.moduleStandby _ h1
    · exact h1
  · exact hP.failModule _ _ _ h
  · exact hP.moduleStandby _ h
  · exact h
  · exact h

theorem takeReply (hP : Kept P) {w : Work} (p : Fin 12) (a : ModuleAnswer) (h : P w) : P (takeReply p a w) := by
  unfold Machine.takeReply
  split
  · exact h
  · dsimp only
    split
    · exact hP.enrolledReply _ _ (hP.changeModule _ _ (hP.changeModule _ _ h))
    · unfold Machine.unenrolledReply
      split
      · exact hP.enterModule _ _ _ _ (hP.changeModule _ _ (hP.changeModule _ _ h))
      · exact hP.changeModule _ _ (hP.changeModule _ _ h)

theorem countMiss (hP : Kept P) {w : Work} (p : Fin 12) (h : P w) : P (countMiss p w) := by
  unfold Machine.countMiss
  split
  · exact hP.failModule _ _ _ h
  · exact h

theorem takeMiss (hP : Kept P) {w : Work} (p : Fin 12) (h : P w) : P (takeMiss p w) := by
  unfold Machine.takeMiss
  split
  · exact h
  · next c _ =>
    have h1 : P (Machine.onlyIf ((noteSent p c w).moduleState p != .notFitted)
        (Machine.changeModule p fun m => { m with miss := min 255 (m.miss + 1) }) (noteSent p c w)) :=
      onlyIf _ _ (hP.changeModule _ _) (hP.changeModule _ _ h)
    dsimp only
    split
    · exact h1
    · split
      · exact hP.enterModule _ _ _ _ h1
      · exact h1
    · exact hP.countMiss _ h1
    · exact hP.countMiss _ h1
    · exact hP.countMiss _ h1
    · exact hP.countMiss _ h1
    · exact hP.countMiss _ (hP.changeModule _ _ h1)
    · exact h1

theorem startExpiry (hP : Kept P) {w : Work} (p : Fin 12) (h : P w) : P (startExpiry p w) := by
  unfold Machine.startExpiry
  split
  · exact hP.failModule _ _ _ h
  · exact h

theorem startRamp (hP : Kept P) {w : Work} (k : RampKind) (a b d : Nat) (h : P w) : P (startRamp k a b d w) :=
  hP.free (by rfl) h

theorem formRequired (hP : Kept P) {w : Work} (h : P w) : P (formRequired w) := by
  unfold Machine.formRequired
  exact hP.handCondition _ _ _ rfl (hP.free (by rfl) h)

theorem checkAbsorption (hP : Kept P) {w : Work} (h : P w) : P (checkAbsorption w) := by
  unfold Machine.checkAbsorption
  split
  · exact hP.endRotation _ _ _ h
  · exact h

theorem shedDecision (hP : Kept P) {w : Work} (h : P w) : P (shedDecision w) := by
  unfold Machine.shedDecision
  split
  · exact hP.free (by rfl) h
  · split
    · split
      · exact hP.shedModule _ (hP.free (by rfl) h)
      · exact h
    · exact h

theorem startAndShed (hP : Kept P) {w : Work} (h : P w) : P (startAndShed w) := by
  have h1 : P { w with shelf := { w.shelf with shedTimer := none } } := hP.free (by rfl) h
  unfold Machine.startAndShed
  split
  · exact hP.shedDecision h
  · dsimp only
    split
    · exact hP.startLeastWorn h1
    · exact h1

theorem endRamp (hP : Kept P) {w : Work} (h : P w) : P (endRamp w) := by
  unfold Machine.endRamp
  dsimp only
  split
  · exact h
  · split
    · exact hP.raise _ (hP.free (by rfl) h)
    · exact hP.raise _ (hP.free (by rfl) h)
    · exact h
    · exact h

theorem formTotal (hP : Kept P) {w : Work} (h : P w) : P (formTotal w) := by
  unfold Machine.formTotal
  exact hP.endRamp (hP.free (by rfl) h)

theorem formPlan (hP : Kept P) {w : Work} (h : P w) : P (formPlan w) := hP.free (by rfl) h

/-! ## The discharge test -/

theorem writeTestResults (hP : Kept P) {w : Work} (t : Termination) (h : P w) : P (writeTestResults t w) := by
  unfold Machine.writeTestResults
  refine forEach _ _ ?_ h
  intro m v hv
  exact hP.string m.index _ (fun hs => hs) hv

theorem giveShortfalls (hP : Kept P) {w : Work} (h : P w) : P (giveShortfalls w) := by
  unfold Machine.giveShortfalls
  refine forEach _ _ ?_ h
  intro m v hv
  exact onlyIf _ _ (hP.momentary _ _ _) hv

theorem restore (hP : Kept P) {w : Work} (t : Termination) (c : Cause) (r : Option EndReason) (h : P w) :
    P (restore t c r w) := by
  unfold Machine.restore
  have h1 : P (stopTestTimers w) := hP.free (by rfl) h
  exact hP.finishOp _ _ _ _ (onlyIf _ _ hP.giveShortfalls (hP.writeTestResults _ (hP.releaseRegime h1)))

theorem abortTest (hP : Kept P) {w : Work} (c : Cause) (h : P w) : P (abortTest c w) := by
  unfold Machine.abortTest
  split
  · exact hP.restore _ _ _ h
  · exact h

theorem testGridMoved (hP : Kept P) {w : Work} (h : P w) : P (testGridMoved w) := by
  unfold Machine.testGridMoved
  split
  · exact h
  · exact hP.abortTest _ h

theorem testThermalAsserted (hP : Kept P) {w : Work} (n : Fin 4) (h : P w) : P (testThermalAsserted n w) := by
  unfold Machine.testThermalAsserted
  split
  · exact hP.abortTest _ h
  · exact h

theorem testLvdMoved (hP : Kept P) {w : Work} (h : P w) : P (testLvdMoved w) := by
  unfold Machine.testLvdMoved
  split
  · exact h
  · exact hP.abortTest _ h

theorem testLeftService (hP : Kept P) {w : Work} (n : Fin 4) (h : P w) : P (testLeftService n w) := by
  unfold Machine.testLeftService
  split
  · exact hP.abortTest _ h
  · exact h

theorem testEngine (hP : Kept P) {w : Work} (h : P w) : P (testEngine w) := by
  unfold Machine.testEngine
  split
  · exact hP.abortTest _ h
  · exact h

theorem testStepTaken (hP : Kept P) {w : Work} (d : Nat) (h : P w) : P (testStepTaken d w) := by
  unfold Machine.testStepTaken
  dsimp only
  split <;> exact hP.free (by rfl) h

theorem testMinuteOver (hP : Kept P) {w : Work} (d : Nat) (h : P w) : P (testMinuteOver d w) := by
  have h1 : P { w with test := { w.test with minutes := w.test.minutes + 1, minuteTimer := some ⟨d, d + 60000⟩ } } :=
    hP.free (by rfl) h
  unfold Machine.testMinuteOver
  dsimp only
  split
  · exact h1
  · split
    · exact hP.restore _ _ _ h1
    · exact h1

theorem testLimitOver (hP : Kept P) {w : Work} (h : P w) : P (testLimitOver w) := by
  unfold Machine.testLimitOver
  split
  · exact hP.restore _ _ _ h
  · exact h

theorem endTest (hP : Kept P) {w : Work} (h : P w) : P (endTest w) := by
  have h1 := hP.stopOp sTest .stopped .none h
  unfold Machine.endTest
  dsimp only
  split
  · exact hP.restore _ _ _ h1
  · exact h1

theorem testLowVoltage (hP : Kept P) {w : Work} (h : P w) : P (testLowVoltage w) := by
  unfold Machine.testLowVoltage
  dsimp only
  split
  · exact hP.abortTest _ (hP.free (by rfl) h)
  · exact hP.free (by rfl) h

theorem testEndVoltage (hP : Kept P) {w : Work} (h : P w) : P (testEndVoltage w) := by
  unfold Machine.testEndVoltage
  dsimp only
  split
  · exact hP.restore _ _ _ (hP.free (by rfl) h)
  · exact hP.testLowVoltage (hP.free (by rfl) h)

theorem testWork (hP : Kept P) {w : Work} (h : P w) : P (testWork w) := by
  have h1 : P (testCounts w) := hP.free (by rfl) h
  unfold Machine.testWork
  split
  · exact h
  · dsimp only
    split
    · split
      · exact hP.restore _ _ _ h1
      · exact hP.testEndVoltage h1
    · exact hP.testLowVoltage h1

/-! ## The source supervisor -/

theorem formPresence (hP : Kept P) {w : Work} (h : P w) : P (formPresence w) := by
  unfold Machine.formPresence
  split
  · exact h
  · exact hP.recloseRow (hP.regimePresence (hP.free (by rfl) h))

theorem changeSource (hP : Kept P) {w : Work} (x : Source) (h : P w) : P (changeSource x w) := by
  unfold Machine.changeSource
  exact hP.raise _ (hP.equalizeSource (hP.log _ _ _ _ (hP.free (by rfl) h)))

theorem formSource (hP : Kept P) {w : Work} (h : P w) : P (formSource w) := by
  unfold Machine.formSource
  apply hP.formPresence
  split
  · exact h
  · exact hP.changeSource _ h

theorem rampAtChangeover (hP : Kept P) {w : Work} (a b : Changeover) (h : P w) : P (rampAtChangeover a b w) := by
  have hz : P (zeroRamp w) := hP.free (by rfl) h
  have hw : P (startWalkin w) := hP.startRamp _ _ _ _ h
  unfold Machine.rampAtChangeover
  split
  · split
    · exact hz
    · exact hw
  · split
    · split
      · exact hw
      · exact hz
    · exact h

theorem enterChangeover (hP : Kept P) {w : Work} (c : Changeover) (h : P w) : P (enterChangeover c w) := by
  unfold Machine.enterChangeover
  exact hP.rampAtChangeover _ _ (hP.formSource (hP.changeover
    { w.mains with changeover := c, gapTimer := if c.inGap then some (w.timerMs Config.gapMs) else none } h))

theorem requestTransfer (hP : Kept P) {w : Work} (h : P w) : P (requestTransfer w) := by
  unfold Machine.requestTransfer
  split
  · exact hP.enterChangeover _ h
  · exact hP.enterChangeover _ h
  · exact hP.formSource h
  · exact hP.formSource h

theorem requestLeave (hP : Kept P) {w : Work} (h : P w) : P (requestLeave w) := by
  unfold Machine.requestLeave
  split
  · exact hP.enterChangeover _ h
  · exact hP.enterChangeover _ h
  · exact hP.formSource h
  · exact hP.formSource h

theorem gapExpiry (hP : Kept P) {w : Work} (h : P w) : P (gapExpiry w) := by
  unfold Machine.gapExpiry
  split
  · exact hP.enterChangeover _ h
  · exact hP.enterChangeover _ h
  · exact h
  · exact h

/-! ## The generator controller -/

theorem enterSubPhase (hP : Kept P) {w : Work} (st : GenState) (h1 : st.fuelOn = w.gen.state.fuelOn)
    (h2 : (st == .crank) = (w.gen.state == .crank)) (h : P w) : P (enterSubPhase st w) := by
  unfold Machine.enterSubPhase
  exact hP.log _ _ _ _ (hP.phase { w.gen with state := st } h1 h2 h)

theorem enterGen (hP : Kept P) {w : Work} (st : GenState) (t : Option Timer) (h : P w) : P (enterGen st t w) := by
  unfold Machine.enterGen
  exact hP.raise _ (hP.raise _ (hP.log _ _ _ _
    (hP.gen { w.gen with state := st, timer := t, window := none, exercise := none } h)))

theorem setStop (hP : Kept P) {w : Work} (c : StopCode) (t : Termination) (x : Cause) (h : P w) :
    P (setStop c t x w) := by
  unfold Machine.setStop
  exact hP.stopOp _ _ _ (hP.free (by rfl) h)

theorem finishRun (hP : Kept P) {w : Work} (t : Termination) (c : Cause) (h : P w) : P (finishRun t c w) := by
  unfold Machine.finishRun
  exact hP.free (by rfl) (hP.finishOp sGenerator t c w.genResult h)

theorem enterOff (hP : Kept P) {w : Work} (h : P w) : P (enterOff w) := by
  unfold Machine.enterOff
  exact hP.finishRun _ _ (hP.enterGen _ _ h)

theorem enterLockout (hP : Kept P) {w : Work} (c : Cause) (h : P w) : P (enterLockout c w) := by
  unfold Machine.enterLockout
  exact hP.finishRun _ _ (hP.free (by rfl) (hP.enterGen .lockout none h))

theorem startFailure (hP : Kept P) {w : Work} (h : P w) : P (startFailure w) := by
  unfold Machine.startFailure
  exact hP.raise _ (hP.momentary _ _ _ (hP.enterLockout _ (hP.setStop _ _ _ (hP.free (by rfl) h))))

theorem rundownEnd (hP : Kept P) {w : Work} (h : P w) : P (rundownEnd w) := by
  unfold Machine.rundownEnd
  split
  · exact hP.raise _ (hP.enterLockout _ h)
  · have h1 : P { w with gen := { w.gen with causes := w.standingCauses } } := hP.free (by rfl) h
    have h2 := hP.enterLockout .restart h1
    dsimp only
    generalize Machine.enterLockout .restart _ = w' at h2
    cases w.gen.stop with
    | none => exact hP.enterOff h
    | some x =>
      dsimp only
      split
      · exact hP.raise _ (hP.free (by rfl) h2)
      · exact hP.enterOff h

theorem enterRundown (hP : Kept P) {w : Work} (t : RundownTarget) (h : P w) : P (enterRundown t w) := by
  unfold Machine.enterRundown
  exact hP.enterGen _ _ (hP.free (by rfl) h)

theorem rundownExpiry (hP : Kept P) {w : Work} (h : P w) : P (rundownExpiry w) := by
  unfold Machine.rundownExpiry
  split
  · exact hP.raise _ (hP.momentary _ _ _ (hP.enterLockout _ (hP.setStop _ _ _ (hP.free (by rfl) h))))
  · exact h

theorem engineFailure (hP : Kept P) {w : Work} (c : StopCode) (h : P w) : P (engineFailure c w) := by
  unfold Machine.engineFailure
  exact hP.momentary _ _ _ (onlyIf _ _ hP.requestLeave (hP.enterRundown _ (hP.setStop _ _ _ (hP.free (by rfl) h))))

theorem enterWarmup (hP : Kept P) {w : Work} (h : P w) : P (enterWarmup w) := by
  unfold Machine.enterWarmup
  split
  · exact hP.free (by rfl) (hP.enterGen .warmup none h)
  · exact hP.enterGen _ _ h

theorem enterCrank (hP : Kept P) {w : Work} (n : Nat) (h : P w) : P (enterCrank n w) := by
  unfold Machine.enterCrank
  exact hP.enterGen _ _ (hP.free (by rfl) h)

theorem enterRest (hP : Kept P) {w : Work} (h : P w) : P (enterRest w) := hP.enterGen _ _ h

theorem prestartEnd (hP : Kept P) {w : Work} (h : P w) : P (prestartEnd w) := by
  unfold Machine.prestartEnd
  split
  · exact hP.enterWarmup h
  · exact hP.enterCrank _ h

theorem prestartExpiry (hP : Kept P) {w : Work} (h : P w) : P (prestartExpiry w) := by
  unfold Machine.prestartExpiry
  split
  · exact hP.prestartEnd h
  · exact h

theorem startRun (hP : Kept P) {w : Work} (k : OpKind) (o : Origin) (r : Option Reason) (m : Nat) (h : P w) :
    P (startRun k o r m w) := by
  unfold Machine.startRun
  exact onlyIf _ _ hP.prestartEnd (hP.enterGen _ _ (hP.free (by rfl) (hP.beginOp sGenerator k o r [m] (by decide) h)))

theorem crankExpiry (hP : Kept P) {w : Work} (h : P w) : P (crankExpiry w) := by
  unfold Machine.crankExpiry
  split
  · split
    · exact hP.enterRest h
    · exact hP.startFailure h
  · exact h

theorem restExpiry (hP : Kept P) {w : Work} (h : P w) : P (restExpiry w) := by
  unfold Machine.restExpiry
  split
  · exact hP.enterCrank _ h
  · exact h

theorem stall (hP : Kept P) {w : Work} (h : P w) : P (stall w) := by
  unfold Machine.stall
  split
  · exact hP.enterRest h
  · exact hP.startFailure h

theorem warmupExpiry (hP : Kept P) {w : Work} (h : P w) : P (warmupExpiry w) := by
  unfold Machine.warmupExpiry
  split
  · exact hP.raise _ (hP.free (by rfl) h)
  · exact h

theorem windowExpiry (hP : Kept P) {w : Work} (h : P w) : P (windowExpiry w) := by
  unfold Machine.windowExpiry
  split
  · exact hP.engineFailure _ h
  · exact h

theorem enterOnload (hP : Kept P) {w : Work} (h : P w) : P (enterOnload w) :=
  hP.requestTransfer (hP.enterGen _ _ h)

theorem convertExercise (hP : Kept P) {w : Work} (h : P w) : P (convertExercise w) :=
  hP.enterOnload (hP.changeOp _ _ (fun _ hr => hr) h)

theorem enterIdling (hP : Kept P) {w : Work} (h : P w) : P (enterIdling w) := by
  unfold Machine.enterIdling
  exact hP.free (by rfl) (hP.enterGen .idling none h)

theorem proceed (hP : Kept P) {w : Work} (h : P w) : P (proceed w) := by
  unfold Machine.proceed
  split
  · split
    · exact hP.convertExercise h
    · exact hP.enterIdling h
  · exact hP.enterOnload h

theorem cutFuel (hP : Kept P) {w : Work} (h : P w) : P (cutFuel w) := by
  unfold Machine.cutFuel
  split
  · exact hP.enterRundown _ h
  · exact hP.enterOff h

theorem cooldownEnd (hP : Kept P) {w : Work} (h : P w) : P (cooldownEnd w) := hP.enterRundown _ h

theorem enterCooldown (hP : Kept P) {w : Work} (h : P w) : P (enterCooldown w) := by
  unfold Machine.enterCooldown
  exact onlyIf _ _ hP.cooldownEnd (onlyIf _ _ hP.requestLeave (hP.enterGen _ _ h))

theorem cooldownExpiry (hP : Kept P) {w : Work} (h : P w) : P (cooldownExpiry w) := by
  unfold Machine.cooldownExpiry
  split
  · exact hP.cooldownEnd h
  · exact h

theorem startUnload (hP : Kept P) {w : Work} (h : P w) : P (startUnload w) := hP.startRamp _ _ _ _ h

theorem stopCourse (hP : Kept P) {w : Work} (h : P w) : P (stopCourse w) := by
  unfold Machine.stopCourse
  split
  · exact hP.cutFuel h
  · exact hP.cutFuel h
  · exact hP.cutFuel h
  · exact hP.cutFuel h
  · exact hP.enterCooldown h
  · next hs =>
    split
    · exact hP.enterCooldown h
    · exact hP.startUnload (hP.enterSubPhase _ (by rw [hs]; rfl) (by rw [hs]; rfl) h)
  · next hs => exact hP.startUnload (hP.enterSubPhase _ (by rw [hs]; rfl) (by rw [hs]; rfl) h)
  all_goals exact h

theorem takeStop (hP : Kept P) {w : Work} (c : StopCode) (t : Termination) (x : Cause) (h : P w) :
    P (takeStop c t x w) := by
  unfold Machine.takeStop
  split
  · exact hP.stopCourse (hP.setStop _ _ _ h)
  · exact h

theorem exerciseExpiry (hP : Kept P) {w : Work} (h : P w) : P (exerciseExpiry w) := by
  unfold Machine.exerciseExpiry
  split
  · exact hP.takeStop _ _ _ h
  · exact h

theorem walkinOver (hP : Kept P) {w : Work} (h : P w) : P (walkinOver w) := by
  unfold Machine.walkinOver
  split
  · next hs =>
    have hs : w.gen.state = .onloadWalkin := by simpa using hs
    exact hP.enterSubPhase _ (by rw [hs]; rfl) (by rw [hs]; rfl) h
  · exact h

theorem unloadOver (hP : Kept P) {w : Work} (h : P w) : P (unloadOver w) := by
  unfold Machine.unloadOver
  split
  · exact hP.enterCooldown h
  · exact h

theorem superviseEngine (hP : Kept P) {w : Work} (h : P w) : P (superviseEngine w) := by
  have hf := hP.engineFailure .faultInput h
  have hr := hP.engineFailure .runningLost h
  have hw := hP.enterWarmup h
  have hc := hP.convertExercise h
  have hx := hP.enterRundown .off h
  unfold Machine.superviseEngine
  split
  · split <;> assumption
  · split <;> assumption
  · split
    · exact hP.stall h
    · split
      · exact hP.proceed h
      · exact h
  · split
    · exact hf
    · split
      · exact hr
      · split <;> assumption
  · split
    · exact hf
    · split <;> assumption
  · split
    · exact hf
    · split <;> assumption
  · split
    · exact hf
    · split <;> assumption
  · split
    · exact hf
    · split <;> assumption
  · split
    · exact hP.rundownEnd h
    · exact h
  all_goals exact h

theorem gridReturn (hP : Kept P) {w : Work} (h : P w) : P (gridReturn w) := by
  unfold Machine.gridReturn
  split
  · exact hP.takeStop _ _ _ h
  · exact h

theorem engineTick (hP : Kept P) {w : Work} (h : P w) : P (engineTick w) := by
  have h1 : P { w with gen := { w.gen with onload := w.gen.onload + 1 } } := hP.free (by rfl) h
  unfold Machine.engineTick
  split
  · dsimp only
    split
    · exact hP.momentary _ _ _ (hP.takeStop _ _ _ h1)
    · exact h1
  · split
    · exact hP.free (by rfl) h
    · exact h

theorem checkLockout (hP : Kept P) {w : Work} (h : P w) : P (checkLockout w) := by
  unfold Machine.checkLockout
  split
  · exact hP.enterGen _ _ (hP.free (by rfl) h)
  · exact h

theorem retryExpiry (hP : Kept P) {w : Work} (h : P w) : P (retryExpiry w) := by
  have h1 : P { w with gen := { w.gen with retry := none } } := hP.free (by rfl) h
  unfold Machine.retryExpiry
  dsimp only
  split
  · exact hP.makeNormal _ _ h1
  · exact h1

theorem retryWritten (hP : Kept P) {w : Work} (h : P w) : P (retryWritten w) := by
  unfold Machine.retryWritten
  split
  · exact h
  · split
    · exact hP.free (by rfl) h
    · split
      · exact hP.retryExpiry h
      · exact hP.free (by rfl) h

/-! ## The scheduler -/

theorem updateEstimate (hP : Kept P) {w : Work} (h : P w) : P (updateEstimate w) := by
  unfold Machine.updateEstimate
  dsimp only
  split <;> exact hP.free (by rfl) h

theorem handReserve (hP : Kept P) {w : Work} (h : P w) : P (handReserve w) := by
  unfold Machine.handReserve
  split
  · exact hP.handCondition _ _ _ rfl h
  · exact h

theorem takeLevels (hP : Kept P) {w : Work} (h : P w) : P (takeLevels w) := hP.free (by rfl) h

theorem formReserve (hP : Kept P) {w : Work} (h : P w) : P (formReserve w) := hP.free (by rfl) h

theorem fuelLowMoved (hP : Kept P) {w : Work} (h : P w) : P (fuelLowMoved w) := hP.handReserve (hP.formReserve h)

theorem fuelFilled (hP : Kept P) {w : Work} (h : P w) : P (fuelFilled w) := hP.free (by rfl) h

theorem fuelTick (hP : Kept P) {w : Work} (h : P w) : P (fuelTick w) := by
  unfold Machine.fuelTick
  split
  · exact hP.free (by rfl) h
  · split
    · exact hP.free (by rfl) h
    · exact h

theorem formRunPoints (hP : Kept P) {w : Work} (h : P w) : P (formRunPoints w) := by
  unfold Machine.formRunPoints
  exact hP.handCondition _ _ _ rfl (hP.handReserve (hP.handCondition _ _ _ rfl (hP.handCondition _ _ _ rfl h)))

theorem testLatch (hP : Kept P) {w : Work} (h : P w) : P (testLatch w) := by
  unfold Machine.testLatch
  split
  · split
    · exact hP.free (by rfl) h
    · exact h
  · exact h

theorem clearLatch (hP : Kept P) {w : Work} (h : P w) : P (clearLatch w) := by
  unfold Machine.clearLatch
  split
  · exact hP.free (by rfl) h
  · exact h

theorem testStops (hP : Kept P) {w : Work} (h : P w) : P (testStops w) := by
  unfold Machine.testStops
  split
  · split
    · exact hP.takeStop _ _ _ h
    · exact h
  · exact h

theorem giveChances (hP : Kept P) {w : Work} (h : P w) : P (giveChances w) :=
  hP.scheduledRotation (hP.scheduledEqualize h)

theorem decideStart (hP : Kept P) {w : Work} (h : P w) : P (decideStart w) := by
  have h1 : P { w with sched := { w.sched with outcome := w.startDecision, lastEval := w.siteSeconds } } :=
    hP.free (by rfl) h
  unfold Machine.decideStart
  dsimp only
  split
  · exact hP.raise _ (hP.startRun _ _ _ _ h1)
  · exact hP.giveChances h1

theorem endEvaluation (hP : Kept P) {w : Work} (r : Reason) (h : P w) : P (endEvaluation r w) :=
  hP.giveChances (hP.free (by rfl) h)

theorem evaluate (hP : Kept P) {w : Work} (h : P w) : P (evaluate w) := by
  unfold Machine.evaluate
  exact hP.decideStart (hP.testStops (hP.testLatch (hP.formRunPoints
    (hP.free (by rfl) (hP.formReserve (hP.takeLevels (hP.updateEstimate h)))))))

theorem exerciseDue (hP : Kept P) {w : Work} (h : P w) : P (exerciseDue w) := by
  unfold Machine.exerciseDue
  split
  · exact hP.startRun _ _ _ _ h
  · exact hP.log _ _ _ _ h

/-! ## The consequences of a command -/

theorem pointActs (hP : Kept P) {w : Work} (p : Fin 41) (h : P w) : P (pointActs p w) := by
  unfold Machine.pointActs
  split
  · exact hP.checkLockout h
  · split
    · exact hP.releaseThermal _ h
    · exact h

theorem handle (hP : Kept P) {w : Work} (e : Event) (h : P w) : P (handle e w) := by
  unfold Machine.handle
  split
  · exact hP.pointActs _ h
  · exact hP.evaluate h
  · exact hP.testEngine (hP.superviseEngine h)
  · exact hP.checkLockout h
  · exact hP.raise _ (hP.formSource h)
  · exact hP.gridReturn (hP.evaluate (hP.clearLatch (hP.testGridMoved h)))
  · exact hP.testLeftService _ h
  · exact hP.regimeMarkerCleared h
  · exact hP.testThermalAsserted _ h
  · exact hP.testLvdMoved h
  · exact hP.testThermal _ h
  · exact hP.endEvaluation _ h
  · exact hP.walkinOver h
  · exact hP.unloadOver h

/-- Settling the consequences of a command keeps what the basic changes keep. -/
theorem settle (hP : Kept P) (fuel : Nat) {w : Work} (h : P w) : P (settle fuel w) := by
  induction fuel generalizing w with
  | zero => exact h
  | succ n ih =>
    unfold Machine.settle
    split
    · exact h
    · next e rest _ =>
      have h1 : P { w with agenda := [] } := hP.free (by rfl) h
      have h2 := hP.handle e h1
      dsimp only
      generalize Machine.handle e _ = w' at h2
      exact ih (hP.free (by rfl) h2)

theorem settleAll (hP : Kept P) {w : Work} (h : P w) : P (settleAll w) := hP.settle _ h

end Kept

namespace KeptByOwners

theorem gridWork (hP : KeptByOwners P) {w : Work} (b : Measurement) (h : P w) : P (gridWork b w) := by
  unfold Machine.gridWork
  dsimp only
  split
  · exact h
  · exact hP.handAny _ _ _ (hP.raise _ (hP.free (by rfl) h))

end KeptByOwners

end Sys2Proof.Machine
end

