-- ==== Sys2Proof/Laws/KeptCommands.lean ====
section
/-! SUPPORT. What every command keeps: a property kept by the basic changes, by a change of what no other block's basic
change touches, and by a setting's write, the store, the restarts and the loss of power, is kept by every step. -/

namespace Sys2Proof.Machine

/-- What even a command changes only through a basic change: the settings, the stored copy, power, the log, the relays,
the targets, the points, the strings, the setpoint, the changeover state and the controller state. -/
def State.tracked (s : State) : State :=
  { State.reset with
    powered := s.powered
    settings := s.settings
    stored := s.stored
    relays := s.relays
    relaysFormed := s.relaysFormed
    strings := s.strings
    targets := s.targets
    points := s.points
    log := s.log
    charge := { RegimeRec.start with setpoint := s.charge.setpoint }
    mains := { Mains.start with changeover := s.mains.changeover }
    gen := { Generator.start with state := s.gen.state } }

/-- A property of the work at hand that is kept by the basic changes, by a change outside what is tracked, and by the
changes that only a command makes. -/
structure KeptMore (P : Work → Prop) : Prop extends KeptByOwners P where
  still : ∀ {v w : Work}, v.toState.tracked = w.toState.tracked → P w → P v
  aux1 : ∀ {w : Work} (on : Bool), P w → P (setRelay rAux1 on w)
  aux2 : ∀ {w : Work} (on : Bool), P w → P (setRelay rAux2 on w)
  first : ∀ {w : Work}, P w → P (firstRelays w)
  escalated : ∀ {w : Work} (p : Fin 41), P w → P (escalate p w)
  testSlot : ∀ {w : Work} (r : OpRec), P w → P { w with slots := w.slots.set sTest (some r) }
  enrolment : ∀ {w : Work} (p : Fin 12) (on : Bool), P w → P (setEnrolled p on w)

/-- A property of the work at hand that every command keeps: the writes of settings, the store, the loss of power and
the two restarts are each asked for. -/
structure KeptByCommands (P : Work → Prop) : Prop extends KeptMore P where
  write : ∀ {w : Work} (id v : Nat) (r : SettingRow), settingRow id = some r → id ≠ 0x0309 →
    relationHolds id (putSetting w.settings id (clampSetting r v)) = true → P w → P (takeSetting id (clampSetting r v) w)
  store : ∀ {w : Work}, P w → P (endStore w)
  power : ∀ {w : Work} (d : Bool), P w → P (losePower d w)
  cold : ∀ {w : Work} (c : Contacts) (t : Straps), P w → P (coldWork c t w)
  warm : ∀ {w : Work} (c : Contacts) (t : Straps), P w → P (warmWork c t w)

variable {P : Work → Prop}

/-! ## String figures are sound after every rule -/

theorem socOf_le (q c : Nat) (h : q ≤ c) : socOf q c ≤ 1000 := by
  unfold socOf
  rcases Nat.eq_zero_or_pos c with rfl | hc
  · simp
  · exact Nat.div_le_of_le_mul (by nlinarith)

theorem formSoc_sound (r : StringRec) (hq : r.q ≤ r.cEff) (hu : r.u ≤ r.cEff) : (formSoc r).figuresOk := by
  refine ⟨hq, hu, socOf_le _ _ hq, ?_⟩
  show socCOf r.q r.u r.cEff ≤ socOf r.q r.cEff
  unfold socCOf socOf
  exact Nat.div_le_div_right (Nat.mul_le_mul_left _ (Nat.sub_le _ _))

theorem synchronised_sound (r : StringRec) : (synchronised r).figuresOk := by
  simp [synchronised, StringRec.figuresOk]

theorem scanCurrent_q_le (st : Settings) (n : Fin 4) (c : Option Int) (r : StringRec) (hq : r.q ≤ r.cEff)
    (hu : r.u ≤ r.cEff) :
    (scanCurrent st n c r).q ≤ (scanCurrent st n c r).cEff ∧ (scanCurrent st n c r).u ≤ (scanCurrent st n c r).cEff := by
  unfold scanCurrent
  cases c with
  | some i =>
    refine ⟨?_, hu⟩
    show (clampInt 0 (r.cEff : Int) _).toNat ≤ r.cEff
    unfold clampInt
    omega
  | none => exact ⟨hq, Nat.min_le_left _ _⟩

theorem scanString_sound (st : Settings) (n : Fin 4) (t : Int × TempSource) (c : Option Int) (sv tl : Bool)
    (r : StringRec) : (scanString st n t c sv tl r).figuresOk := by
  have h := scanCurrent_q_le st n c (scanCapacity st n t r) (Nat.min_le_right _ _) (Nat.min_le_right _ _)
  exact formSoc_sound _ h.1 h.2

theorem scanSinceFull_sound (r : StringRec) (h : r.figuresOk) : (scanSinceFull r).figuresOk := by
  unfold scanSinceFull
  split <;> exact h

theorem enrolledRecord_sound (st : Settings) (n : Fin 4) (t : Int × TempSource) (f : Bool) :
    (enrolledRecord st n t f).figuresOk :=
  formSoc_sound _ (Nat.div_le_self _ _) (Nat.le_refl _)

namespace KeptByOwners

/-! ## The owners -/

theorem startSupervision (hP : KeptByOwners P) {w : Work} (h : P w) : P (startSupervision w) :=
  hP.mode _ rfl rfl rfl (.inr rfl) h

theorem allowanceStop (hP : KeptByOwners P) {w : Work} (h : P w) : P (allowanceStop w) := by
  unfold Machine.allowanceStop
  split
  · exact h
  · exact hP.takeStop _ _ _ h

theorem setRemaining (hP : KeptByOwners P) {w : Work} (v : Nat) (h : P w) : P (setRemaining v w) := by
  have h1 : P { w with mode := { w.mode with remaining := v, holdOnloadS := 0 } } := hP.mode _ rfl rfl rfl (.inl rfl) h
  unfold Machine.setRemaining
  exact Kept.onlyIf _ _ hP.allowanceStop (hP.handAny _ _ _ h1)

theorem consumeInput (hP : KeptByOwners P) {w : Work} (i : Fin 16) (h : P w) : P (consumeInput i w) := by
  unfold Machine.consumeInput
  split
  · exact hP.raise _ h
  · exact hP.raise _ h
  · exact hP.raise _ h
  · exact hP.fuelLowMoved h
  · exact hP.handMoved h
  · exact hP.handAny _ _ _ h
  · exact hP.handAny _ _ _ h
  · exact hP.handAny _ _ _ h
  · exact hP.auxMoved _ h
  · exact hP.auxMoved _ h
  · exact hP.auxMoved _ h
  · exact hP.auxMoved _ h
  · exact hP.auxMoved _ h
  · exact h

theorem formActive (hP : KeptByOwners P) {w : Work} (i : Fin 16) (h : P w) : P (formActive i w) := by
  unfold Machine.formActive
  dsimp only
  split
  · exact h
  · exact hP.consumeInput _ (hP.noteService _ (hP.inputs _ h))

theorem formSensorFault (hP : KeptByOwners P) {w : Work} (b : Table Channel 20) (h : P w) :
    P (formSensorFault b w) := by
  unfold Machine.formSensorFault
  dsimp only
  split <;> exact hP.handAny _ _ _ h

theorem handWatchPoints (hP : KeptByOwners P) {w : Work} (h : P w) : P (handWatchPoints w) := by
  unfold Machine.handWatchPoints
  refine Kept.forEach _ _ ?_ ?_
  · intro n v hv
    exact hP.handAny _ _ _ hv
  · exact hP.handAny _ _ _ (hP.handAny _ _ _ (hP.handAny _ _ _ h))

end KeptByOwners

namespace KeptMore

/-! ## Time, the link and the mode -/

theorem reachMs (hP : KeptMore P) {w : Work} (t : Nat) (h : P w) : P (reachMs t w) := hP.still (by rfl) h

theorem atExpiry (hP : KeptMore P) {w : Work} (t : Option Timer) (f : Work → Work) (hf : ∀ v, P v → P (f v))
    (h : P w) : P (atExpiry t f w) := by
  unfold Machine.atExpiry
  split
  · exact hf _ (hP.reachMs _ h)
  · exact h

theorem genExpiry (hP : KeptMore P) {w : Work} (st : GenState) (f : Work → Work) (hf : ∀ v, P v → P (f v))
    (h : P w) : P (genExpiry st f w) := by
  unfold Machine.genExpiry
  split
  · exact hP.atExpiry _ _ hf h
  · exact h

theorem changeMode (hP : KeptMore P) {w : Work} (m : Mode) (c : ModeCause) (h : P w) : P (changeMode m c w) := by
  unfold Machine.changeMode
  exact hP.log _ _ _ _ (hP.still (by rfl) h)

theorem placeAuxRelays (hP : KeptMore P) {w : Work} (h : P w) : P (placeAuxRelays w) := by
  unfold Machine.placeAuxRelays Machine.placeAux
  have h1 : P (if w.setting 0x0820 = 1 then setRelay rAux1 false w
      else if w.setting 0x0820 = 2 then setRelay rAux1 true w else w) := by
    split
    · exact hP.aux1 _ h
    · split
      · exact hP.aux1 _ h
      · exact h
  split
  · exact hP.aux2 _ h1
  · split
    · exact hP.aux2 _ h1
    · exact h1

theorem holdEntry (hP : KeptMore P) {w : Work} (h : P w) : P (holdEntry w) := by
  unfold Machine.holdEntry
  exact Kept.onlyIf _ _ hP.allowanceStop (hP.abortTest _ (hP.placeAuxRelays (hP.withdrawHost h)))

theorem frameArrival (hP : KeptMore P) {w : Work} (h : P w) : P (frameArrival w) := by
  unfold Machine.frameArrival
  apply hP.startSupervision
  split
  · exact hP.handAny _ _ _ (hP.changeMode _ _ h)
  · exact h

theorem supervisionExpiry (hP : KeptMore P) {w : Work} (h : P w) : P (supervisionExpiry w) := by
  have h1 : P { w with mode := { w.mode with timer := none } } := hP.still (by rfl) h
  unfold Machine.supervisionExpiry
  exact hP.handAny _ _ _ (Kept.onlyIf _ _ (fun hv => hP.holdEntry (hP.changeMode _ _ hv)) h1)

theorem allowanceTick (hP : KeptMore P) {w : Work} (h : P w) : P (allowanceTick w) := by
  unfold Machine.allowanceTick
  split
  · split
    · exact hP.still (by rfl) h
    · exact hP.setRemaining _ h
  · exact h

/-! ## Inputs and the scan -/

theorem takeContact (hP : KeptMore P) {w : Work} (i : Fin 16) (c : Bool) (h : P w) : P (takeContact i c w) := by
  unfold Machine.takeContact
  split
  · exact h
  · exact hP.formActive _ (hP.still (by rfl) h)

theorem sampleContact (hP : KeptMore P) {w : Work} (i : Fin 16) (c : Bool) (h : P w) :
    P (sampleContact i c w) := by
  have h1 : P (Machine.reachMs ((w.inputs.get i).samples + 1)
      { w with inputs := w.inputs.set i { w.inputs.get i with samples := (w.inputs.get i).samples + 1 } }) :=
    hP.still (by rfl) h
  unfold Machine.sampleContact
  dsimp only
  split
  · exact hP.still (by rfl) h1
  · split
    · exact hP.still (by rfl) h1
    · split
      · exact hP.still (by rfl) h1
      · exact hP.takeContact _ _ h1

theorem scannerWork (hP : KeptMore P) {w : Work} (raw : Table Int 20) (h : P w) : P (scannerWork raw w) := by
  unfold Machine.scannerWork
  exact hP.formSensorFault _ (hP.still (by rfl) h)

theorem accountString (hP : KeptMore P) {w : Work} (n : Fin 4) (h : P w) : P (accountString n w) := by
  unfold Machine.accountString
  split
  · exact h
  · dsimp only
    refine Kept.onlyIf _ _ (hP.raise _) (Kept.onlyIf _ _ (hP.raise _) (Kept.onlyIf _ _ (hP.log _ _ _ _) ?_))
    refine hP.string n _ (fun _ => scanSinceFull_sound _ ?_) h
    split
    · exact synchronised_sound _
    · exact scanString_sound _ _ _ _ _ _ _

theorem scanBlock (hP : KeptMore P) {w : Work} (s : State) (b : ScanBlock) (h : P w) :
    P (scanBlock s b w) := by
  unfold Machine.scanBlock
  split
  · exact hP.handWatchPoints h
  · exact hP.lvdWork _ h
  · exact hP.gridWork _ h
  · exact hP.raise _ h
  · exact Kept.forEach _ _ (fun n v hv => hP.accountString n hv) h
  · exact hP.regimeWork _ h
  · exact hP.thermalWork h
  · exact hP.testWork h

theorem scanWork (hP : KeptMore P) {w : Work} (raw : Table Int 20) (order : List ScanBlock) (h : P w) :
    P (scanWork raw order w) := by
  unfold Machine.scanWork
  refine hP.first (Kept.forEach _ _ ?_ (hP.settleAll (hP.scannerWork raw h)))
  intro b v hv
  exact hP.settleAll (hP.scanBlock _ _ hv)

/-! ## Seconds, polls and the record -/

theorem clockTick (hP : KeptMore P) {w : Work} (h : P w) : P (clockTick w) := by
  unfold Machine.clockTick
  split
  · exact h
  · dsimp only
    split
    · exact hP.exerciseDue (hP.still (by rfl) h)
    · exact hP.still (by rfl) h

theorem equalizeTick (hP : KeptMore P) {w : Work} (h : P w) : P (equalizeTick w) := by
  unfold Machine.equalizeTick
  split
  · exact h
  · split <;> exact hP.free (by rfl) h

theorem tickBlock (hP : KeptMore P) {w : Work} (b : TickBlock) (h : P w) : P (tickBlock b w) := by
  unfold Machine.tickBlock
  split
  · exact hP.free (by rfl) h
  · exact hP.engineTick h
  · exact hP.fuelTick h
  · exact hP.allowanceTick h
  · exact hP.equalizeTick h
  · exact hP.clockTick h

theorem secondWork (hP : KeptMore P) {w : Work} (order : List TickBlock) (h : P w) : P (secondWork order w) := by
  unfold Machine.secondWork
  refine Kept.forEach _ _ ?_ (hP.still (by rfl) h)
  intro b v hv
  exact hP.settleAll (hP.tickBlock b hv)

theorem pollCycleWork (hP : KeptMore P) {w : Work} (h : P w) : P (pollCycleWork w) := by
  unfold Machine.pollCycleWork
  exact hP.formPlan (hP.formTotal (hP.startAndShed (hP.checkAbsorption (hP.formRequired
    (hP.free (by rfl) (hP.still (by rfl) h))))))

theorem writeRecord (hP : KeptMore P) {w : Work} (h : P w) : P (writeRecord w) := hP.still (by rfl) h

theorem hourlyWrite (hP : KeptMore P) {w : Work} (h : P w) : P (hourlyWrite w) := by
  unfold Machine.hourlyWrite
  exact Kept.onlyIf _ _ hP.writeRecord (hP.still (by rfl) h)

theorem pacedEvaluation (hP : KeptMore P) {w : Work} (h : P w) : P (pacedEvaluation w) := by
  unfold Machine.pacedEvaluation
  exact hP.evaluate (hP.still (by rfl) h)

/-! ## Requests -/

theorem carriedOut (hP : KeptMore P) {w : Work} (d : State → ReplyData) (h : P w) : P (carriedOut w d).1 :=
  hP.settleAll h

theorem enrolModule (hP : KeptMore P) {w : Work} (p : Fin 12) (f : Bool) (h : P w) : P (enrolModule p f w) := by
  unfold Machine.enrolModule
  exact hP.enterModule _ _ _ _ (hP.changeModule _ _ (hP.enrolment _ _ (hP.free (by rfl) h)))

theorem retireModule (hP : KeptMore P) {w : Work} (p : Fin 12) (h : P w) : P (retireModule p w) := by
  unfold Machine.retireModule
  exact hP.enterModule _ _ _ _ (hP.changeModule _ _ (hP.enrolment _ _ h))

theorem beginTest (hP : KeptMore P) {w : Work} (a : List Nat) (h : P w) : P (beginTest a w) := by
  unfold Machine.beginTest Machine.beginOp
  exact hP.changeRegime _ _ (hP.free (by rfl) (hP.log _ _ _ _ (hP.testSlot _ h)))

theorem beginKind (hP : KeptMore P) {w : Work} (k : OpKind) (a : List Nat) (h : P w) : P (beginKind k a w) := by
  unfold Machine.beginKind
  split
  · exact hP.startRun _ _ _ _ h
  · exact hP.startRun _ _ _ _ h
  · exact hP.beginEqualize _ _ h
  · exact hP.beginTest _ h
  · exact hP.beginRotation _ h

theorem endWork (hP : KeptMore P) {w : Work} (k : Fin 4) (h : P w) : P (endWork k w) := by
  have h1 : P { w with sched := { w.sched with latch := w.sched.latch || w.setsLatch k } } := hP.free (by rfl) h
  have h2 := hP.stopOp k .stopped .none h1
  unfold Machine.endWork Machine.endSlot
  dsimp only
  split
  · exact hP.takeStop _ _ _ h2
  · split
    · exact hP.stopEqualize h2
    · split
      · exact hP.endTest h2
      · exact hP.endRotation _ _ _ h2

theorem ackPoint (hP : KeptMore P) {w : Work} (p : Fin 41) (h : P w) : P (ackPoint p w) := by
  unfold Machine.ackPoint
  split
  · next hs =>
    refine hP.move _ _ (.inr (.inr ?_)) (hP.log _ _ _ _ h)
    show (w.points.get p).state ≠ .normal
    rw [hs]
    simp
  · exact hP.makeNormal _ _ h
  · exact h
  · exact h

theorem clearFault (hP : KeptMore P) {w : Work} (p : Fin 41) (h : P w) : P (clearFault p w) := by
  unfold Machine.clearFault
  split
  · split
    · exact hP.clearMarker _ h
    · exact h
  · exact h

theorem clearPoint (hP : KeptMore P) {w : Work} (p : Fin 41) (h : P w) : P (clearPoint p w) := by
  have h1 : P { w with points := w.points.modify p fun x => { x with proof := false } } :=
    hP.point p { w.points.get p with proof := false } rfl rfl (.inl rfl) h
  have h2 := hP.clearFault p h1
  unfold Machine.clearPoint
  dsimp only
  split
  · exact h2
  · exact hP.makeNormal _ _ h2

theorem provePoint (hP : KeptMore P) {w : Work} (p : Fin 41) (h : P w) : P (provePoint p w) := by
  unfold Machine.provePoint
  split
  · exact hP.momentary _ _ _ h
  · have h1 : P { w with points := w.points.set p { w.points.get p with proof := true } } := hP.point p _ rfl rfl (.inl rfl) h
    dsimp only
    split
    · exact h1
    · exact hP.conditionRose _ _ _ h1

/-- R151, R152: the request over a mask, its refusals first. -/
theorem reqPoints_eq (act : Fin 41 → Work → Work) (p : List Byte) (w : Work) :
    Machine.reqPoints act p w = if p.length ≠ 6 then refused .badLength w else
      if pointMaskBad (maskAt p) then refused .badSubject w else
      Machine.carriedOut (Machine.forEach (namedPoints (maskAt p)) (fun q v => Machine.settleAll (act q v)) w)
        (pointsChanged w.toState (maskAt p)) := rfl

theorem reqPoints (hP : KeptMore P) {w : Work} (act : Fin 41 → Work → Work) (ha : ∀ q v, P v → P (act q v))
    (p : List Byte) (h : P w) : P (reqPoints act p w).1 := by
  rw [reqPoints_eq]
  split
  · exact h
  · split
    · exact h
    · refine hP.carriedOut _ (Kept.forEach _ _ ?_ h)
      intro q v hv
      exact hP.settleAll (ha q v hv)

theorem driveAux (hP : KeptMore P) {w : Work} (m : Nat) (on : Bool) (h : P w) : P (driveAux m on w) := by
  unfold Machine.driveAux
  exact Kept.onlyIf _ _ (hP.aux2 on) (Kept.onlyIf _ _ (hP.aux1 on) h)

theorem reqRelays (hP : KeptMore P) {w : Work} (on : Bool) (p : List Byte) (h : P w) :
    P (reqRelays on p w).1 := by
  unfold Machine.reqRelays
  split
  · exact h
  · dsimp only
    split
    · exact h
    · split
      · exact h
      · exact hP.carriedOut _ (hP.driveAux _ _ h)

theorem reqBegin (hP : KeptMore P) {w : Work} (p : List Byte) (h : P w) : P (reqBegin p w).1 := by
  unfold Machine.reqBegin
  split
  · exact h
  · split
    · exact h
    · split
      · exact h
      · split
        · exact h
        · split
          · exact h
          · split
            · exact h
            · split
              · exact h
              · dsimp only
                split
                · exact h
                · exact hP.carriedOut _ (hP.beginKind _ _ h)

theorem reqEnd (hP : KeptMore P) {w : Work} (p : List Byte) (h : P w) : P (reqEnd p w).1 := by
  unfold Machine.reqEnd
  split
  · exact h
  · split
    · exact h
    · split
      · exact h
      · split
        · exact h
        · exact hP.carriedOut _ (hP.endWork _ h)

theorem reqSyncString (hP : KeptMore P) {w : Work} (p : List Byte) (h : P w) : P (reqSyncString p w).1 := by
  unfold Machine.reqSyncString
  split
  · exact h
  · split
    · exact h
    · next n _ =>
      split
      · exact h
      · split
        · exact h
        · exact hP.carriedOut _ (hP.log _ _ _ _
            (hP.string n (synchronised (w.strings.get n)) (fun _ => synchronised_sound _) h))

theorem reqEnrol (hP : KeptMore P) {w : Work} (p : List Byte) (h : P w) : P (reqEnrol p w).1 := by
  unfold Machine.reqEnrol
  split
  · exact h
  · split
    · exact h
    · split
      · exact h
      · split
        · exact h
        · split
          · exact h
          · exact hP.carriedOut _ (hP.enrolModule _ _ h)

theorem reqRetire (hP : KeptMore P) {w : Work} (p : List Byte) (h : P w) : P (reqRetire p w).1 := by
  unfold Machine.reqRetire
  split
  · exact h
  · split
    · exact h
    · split
      · exact h
      · split
        · exact h
        · split
          · exact h
          · split
            · exact h
            · exact hP.carriedOut _ (hP.retireModule _ h)

theorem reqContactor (hP : KeptMore P) {w : Work} (p : List Byte) (h : P w) : P (reqContactor p w).1 := by
  unfold Machine.reqContactor
  split
  · exact h
  · split
    · exact h
    · split
      · exact h
      · split
        · exact h
        · exact hP.carriedOut _ (hP.hostClaim _ _ h)

theorem reqProve (hP : KeptMore P) {w : Work} (p : List Byte) (h : P w) : P (reqProve p w).1 := by
  unfold Machine.reqProve
  split
  · exact h
  · split
    · exact h
    · exact hP.carriedOut _ (hP.provePoint _ h)

theorem reqReadOperation (hP : KeptMore P) {w : Work} (p : List Byte) (h : P w) : P (reqReadOperation p w).1 := by
  unfold Machine.reqReadOperation
  split
  · exact h
  · split
    · exact h
    · refine hP.changeOp _ _ ?_ h
      intro r hr
      by_cases hd : r.state == .done
      · rw [if_pos hd] at hr; exact hr
      · rw [if_neg hd] at hr; exact hr

end KeptMore

namespace KeptByCommands

theorem reqWriteSetting (hP : KeptByCommands P) {w : Work} (p : List Byte) (h : P w) : P (reqWriteSetting p w).1 := by
  unfold Machine.reqWriteSetting
  split
  · exact h
  · dsimp only
    split
    · exact h
    · next r hr =>
      split
      · exact h
      · split
        · exact h
        · next hid =>
          split
          · exact h
          · next hrel => exact hP.carriedOut _ (hP.write _ _ _ hr hid (by simpa using hrel) h)

/-- A request that changes nothing, or only what no basic change touches, keeps the property. -/
theorem request (hP : KeptByCommands P) {w : Work} (kind : Byte) (p : List Byte) (h : P w) : P (request kind p w).1 := by
  unfold Machine.request
  split
  · unfold Machine.reqReadIdentity; split <;> exact h
  · unfold Machine.reqReadPlant; split <;> exact h
  · unfold Machine.reqReadString; split
    · exact h
    · split <;> exact h
  · unfold Machine.reqReadModule; split
    · exact h
    · split
      · exact h
      · split <;> exact h
  · unfold Machine.reqReadSources; split <;> exact h
  · unfold Machine.reqReadChannel; split
    · exact h
    · split <;> exact h
  · unfold Machine.reqReadInputs; split
    · exact h
    · exact hP.still (by rfl) h
  · unfold Machine.reqReadAlarms; split
    · exact h
    · split <;> exact h
  · unfold Machine.reqReadLog; split <;> exact h
  · exact hP.reqReadOperation p h
  · unfold Machine.reqReadSetting; split
    · exact h
    · dsimp only
      split <;> exact h
  · unfold Machine.reqReadLink; split
    · exact h
    · exact hP.still (by rfl) h
  · exact hP.reqWriteSetting p h
  · unfold Machine.reqStoreSettings; split
    · exact h
    · split
      · exact h
      · exact hP.carriedOut _ (hP.still (by rfl) h)
  · unfold Machine.reqSetClock; split
    · exact h
    · split
      · exact h
      · exact hP.carriedOut _ (hP.still (by rfl) h)
  · exact hP.reqRelays _ _ h
  · exact hP.reqRelays _ _ h
  · exact hP.reqBegin _ h
  · exact hP.reqEnd _ h
  · exact hP.reqPoints _ (fun q v hv => hP.ackPoint q hv) _ h
  · exact hP.reqPoints _ (fun q v hv => hP.clearPoint q hv) _ h
  · exact hP.reqProve _ h
  · exact hP.reqContactor _ h
  · exact hP.reqEnrol _ h
  · exact hP.reqRetire _ h
  · exact hP.reqSyncString _ h
  · unfold Machine.reqRestart; split
    · exact h
    · split
      · exact h
      · exact hP.carriedOut _ (hP.still (by rfl) h)
  · exact h

/-! ## The link -/

theorem carryOut (hP : KeptByCommands P) {w : Work} (f : Frame) (h : P w) : P (carryOut f w).1 := by
  unfold Machine.carryOut
  split
  · exact hP.request _ _ (hP.settleAll (hP.frameArrival h))
  · exact hP.still (by rfl) h

theorem takeFrame (hP : KeptByCommands P) {w : Work} (f : Frame) (h : P w) : P (takeFrame f w) := by
  have h1 := hP.carryOut f h
  unfold Machine.takeFrame
  dsimp only
  generalize Machine.carryOut f w = r at h1
  exact hP.still (by rfl) h1

theorem goodFrame (hP : KeptByCommands P) {w : Work} (f : Frame) (h : P w) : P (goodFrame f w) := by
  have h1 : P (countFrame w) := hP.still (by rfl) h
  unfold Machine.goodFrame
  dsimp only
  split
  · split
    · exact h1
    · exact hP.takeFrame f h1
  · exact hP.still (by rfl) h1
  · exact hP.still (by rfl) h1

theorem receiveByte (hP : KeptByCommands P) {w : Work} (b : Byte) (h : P w) : P (receiveByte b w) := by
  unfold Machine.receiveByte
  split
  · split
    · exact hP.still (by rfl) h
    · exact h
  · split <;> exact hP.still (by rfl) h
  · split <;> exact hP.still (by rfl) h
  · exact hP.still (by rfl) h
  · unfold Machine.completeBytes
    split
    · exact hP.goodFrame _ h
    · exact hP.still (by rfl) h

theorem gapTimerExpiry (hP : KeptByCommands P) {w : Work} (h : P w) : P (gapTimerExpiry w) := by
  unfold Machine.gapTimerExpiry
  split
  · exact h
  · exact hP.still (by rfl) h

theorem replyOver (hP : KeptByCommands P) {w : Work} (h : P w) : P (replyOver w) := by
  unfold Machine.replyOver
  split
  · exact h
  · have h1 : P { w with link := { w.link with reply := none, held := none } } := hP.still (by rfl) h
    dsimp only
    split
    · exact hP.writeRecord (hP.still (by rfl) h1)
    · split
      · exact hP.takeFrame _ h1
      · exact h1

/-! ## Every command -/

theorem rampStep (hP : KeptByCommands P) {w : Work} (h : P w) :
    P (match w.shelf.ramp.timer with | some t => rampStepTaken t.due (Machine.reachMs t.due w) | none => w) := by
  split
  · exact hP.still (by rfl) h
  · exact h

theorem testStep (hP : KeptByCommands P) {w : Work} (h : P w) :
    P (match w.test.stepTimer with | some t => Machine.testStepTaken t.due (Machine.reachMs t.due w) | none => w) := by
  split
  · exact hP.testStepTaken _ (hP.reachMs _ h)
  · exact h

theorem testMinute (hP : KeptByCommands P) {w : Work} (h : P w) :
    P (match w.test.minuteTimer with | some t => Machine.testMinuteOver t.due (Machine.reachMs t.due w) | none => w) := by
  split
  · exact hP.testMinuteOver _ (hP.reachMs _ h)
  · exact h

theorem run (hP : KeptByCommands P) {s t : State} (f : Work → Work) (hf : ∀ w, P w → P (f w)) (h : P ⟨s, []⟩)
    (ht : run f s = .next t) : P ⟨t, []⟩ := by
  unfold Machine.run at ht
  split at ht
  · injection ht with ht
    subst ht
    exact hP.still (by rfl) (hP.settleAll (hf _ h))
  · injection ht with ht
    subst ht
    exact h

/-- Every command keeps the property. -/
theorem exec (hP : KeptByCommands P) {s t : State} (c : Instr) (h : P ⟨s, []⟩) (ht : exec c s = .next t) : P ⟨t, []⟩ := by
  unfold Machine.exec at ht
  split at ht
  · exact hP.run _ (fun w hw => hP.goodFrame _ hw) h ht
  · exact hP.run _ (fun w hw => hP.goodFrame _ hw) h ht
  · exact hP.run _ (fun w hw => hP.goodFrame _ hw) h ht
  · exact hP.run _ (fun w hw => hP.goodFrame _ hw) h ht
  · exact hP.run _ (fun w hw => hP.goodFrame _ hw) h ht
  · exact hP.run _ (fun w hw => hP.goodFrame _ hw) h ht
  · exact hP.run _ (fun w hw => hP.goodFrame _ hw) h ht
  · exact hP.run _ (fun w hw => hP.goodFrame _ hw) h ht
  · exact hP.run _ (fun w hw => hP.goodFrame _ hw) h ht
  · exact hP.run _ (fun w hw => hP.goodFrame _ hw) h ht
  · exact hP.run _ (fun w hw => hP.goodFrame _ hw) h ht
  · exact hP.run _ (fun w hw => hP.goodFrame _ hw) h ht
  · exact hP.run _ (fun w hw => hP.goodFrame _ hw) h ht
  · exact hP.run _ (fun w hw => hP.goodFrame _ hw) h ht
  · exact hP.run _ (fun w hw => hP.goodFrame _ hw) h ht
  · exact hP.run _ (fun w hw => hP.goodFrame _ hw) h ht
  · exact hP.run _ (fun w hw => hP.goodFrame _ hw) h ht
  · exact hP.run _ (fun w hw => hP.goodFrame _ hw) h ht
  · exact hP.run _ (fun w hw => hP.goodFrame _ hw) h ht
  · exact hP.run _ (fun w hw => hP.goodFrame _ hw) h ht
  · exact hP.run _ (fun w hw => hP.goodFrame _ hw) h ht
  · exact hP.run _ (fun w hw => hP.goodFrame _ hw) h ht
  · exact hP.run _ (fun w hw => hP.goodFrame _ hw) h ht
  · exact hP.run _ (fun w hw => hP.goodFrame _ hw) h ht
  · exact hP.run _ (fun w hw => hP.goodFrame _ hw) h ht
  · exact hP.run _ (fun w hw => hP.goodFrame _ hw) h ht
  · exact hP.run _ (fun w hw => hP.goodFrame _ hw) h ht
  · exact hP.run _ (fun w hw => hP.goodFrame _ hw) h ht
  · exact hP.run _ (fun w hw => hP.still (by rfl) hw) h ht
  · exact hP.run _ (fun w hw => hP.goodFrame _ hw) h ht
  · exact hP.run _ (fun w hw => hP.goodFrame _ hw) h ht
  · exact hP.run _ (fun w hw => hP.gapTimerExpiry hw) h ht
  · exact hP.run _ (fun w hw => hP.scanWork _ _ hw) h ht
  · exact hP.run _ (fun w hw => hP.pollCycleWork hw) h ht
  · exact hP.run _ (fun w hw => hP.takeReply _ _ hw) h ht
  · exact hP.run _ (fun w hw => hP.takeMiss _ hw) h ht
  · exact hP.run _ (fun w hw => hP.atExpiry _ _ (fun v hv => hP.startExpiry _ hv) hw) h ht
  · exact hP.run _ (fun w hw => hP.rampStep hw) h ht
  · exact hP.run _ (fun w hw => hP.pacedEvaluation hw) h ht
  · exact hP.run _ (fun w hw => hP.secondWork _ hw) h ht
  · exact hP.run _ (fun w hw => hP.hourlyWrite hw) h ht
  · exact hP.run _ (fun w hw => hP.takeContact _ _ hw) h ht
  · exact hP.run _ (fun w hw => hP.atExpiry _ _ (fun v hv => hP.feedbackExpiry _ hv) hw) h ht
  · exact hP.run _ (fun w hw => hP.genExpiry _ _ (fun v hv => hP.prestartExpiry hv) hw) h ht
  · exact hP.run _ (fun w hw => hP.genExpiry _ _ (fun v hv => hP.crankExpiry hv) hw) h ht
  · exact hP.run _ (fun w hw => hP.genExpiry _ _ (fun v hv => hP.restExpiry hv) hw) h ht
  · exact hP.run _ (fun w hw => hP.genExpiry _ _ (fun v hv => hP.warmupExpiry hv) hw) h ht
  · exact hP.run _ (fun w hw => hP.atExpiry _ _ (fun v hv => hP.windowExpiry hv) hw) h ht
  · exact hP.run _ (fun w hw => hP.atExpiry _ _ (fun v hv => hP.gapExpiry hv) hw) h ht
  · exact hP.run _ (fun w hw => hP.atExpiry _ _ (fun v hv => hP.exerciseExpiry hv) hw) h ht
  · exact hP.run _ (fun w hw => hP.genExpiry _ _ (fun v hv => hP.cooldownExpiry hv) hw) h ht
  · exact hP.run _ (fun w hw => hP.genExpiry _ _ (fun v hv => hP.rundownExpiry hv) hw) h ht
  · exact hP.run _ (fun w hw => hP.atExpiry _ _ (fun v hv => hP.retryExpiry hv) hw) h ht
  · exact hP.run _ (fun w hw => hP.atExpiry _ _ (fun v hv => hP.absorbExpiry hv) hw) h ht
  · exact hP.run _ (fun w hw => hP.atExpiry _ _ (fun v hv => hP.completeEqualize hv) hw) h ht
  · exact hP.run _ (fun w hw => hP.atExpiry _ _ (fun v hv => hP.escalated _ hv) hw) h ht
  · exact hP.run _ (fun w hw => hP.atExpiry _ _ (fun v hv => hP.supervisionExpiry hv) hw) h ht
  · exact hP.run _ (fun w hw => hP.testStep hw) h ht
  · exact hP.run _ (fun w hw => hP.testMinute hw) h ht
  · exact hP.run _ (fun w hw => hP.atExpiry _ _ (fun v hv => hP.testLimitOver hv) hw) h ht
  · exact hP.run _ (fun w hw => hP.store hw) h ht
  · next c straps =>
    unfold Machine.execColdRestart Machine.runAlways at ht
    injection ht with ht
    subst ht
    have h1 := hP.settleAll (hP.cold c straps h)
    generalize Machine.settleAll _ = v at h1 ⊢
    exact hP.still (by rfl) h1
  · exact hP.run _ (fun w hw => hP.warm _ _ hw) h ht
  · exact hP.run _ (fun w hw => hP.receiveByte _ hw) h ht
  · exact hP.run _ (fun w hw => hP.replyOver hw) h ht
  · exact hP.run _ (fun w hw => hP.sampleContact _ _ hw) h ht
  · exact hP.run _ (fun w hw => hP.power _ hw) h ht

end KeptByCommands

end Sys2Proof.Machine
end

