-- ==== Sys2Proof/Laws/State.lean ====
section
/-! SUPPORT. What each shared operation does to each field it may touch, one lemma a field, so that no later proof unfolds
a record update. -/

namespace Sys2Proof.Machine

/-! ## The queue, the agenda and time -/

@[simp] theorem withPending_pending (s : State) (q : List Instr) : (s.withPending q).pending = q := rfl
@[simp] theorem withPending_powered (s : State) (q : List Instr) : (s.withPending q).powered = s.powered := rfl
@[simp] theorem withPending_ms (s : State) (q : List Instr) : (s.withPending q).ms = s.ms := rfl
@[simp] theorem withPending_tickCount (s : State) (q : List Instr) : (s.withPending q).tickCount = s.tickCount := rfl
@[simp] theorem withPending_evalCount (s : State) (q : List Instr) : (s.withPending q).evalCount = s.evalCount := rfl
@[simp] theorem withPending_hourCount (s : State) (q : List Instr) : (s.withPending q).hourCount = s.hourCount := rfl
@[simp] theorem withPending_fresh (s : State) (q : List Instr) : (s.withPending q).fresh = s.fresh := rfl
@[simp] theorem withPending_lastRestart (s : State) (q : List Instr) : (s.withPending q).lastRestart = s.lastRestart := rfl
@[simp] theorem withPending_settingsFrom (s : State) (q : List Instr) : (s.withPending q).settingsFrom = s.settingsFrom := rfl
@[simp] theorem withPending_settings (s : State) (q : List Instr) : (s.withPending q).settings = s.settings := rfl
@[simp] theorem withPending_loaded (s : State) (q : List Instr) : (s.withPending q).loaded = s.loaded := rfl
@[simp] theorem withPending_stored (s : State) (q : List Instr) : (s.withPending q).stored = s.stored := rfl
@[simp] theorem withPending_record (s : State) (q : List Instr) : (s.withPending q).record = s.record := rfl
@[simp] theorem withPending_storePending (s : State) (q : List Instr) : (s.withPending q).storePending = s.storePending := rfl
@[simp] theorem withPending_meas (s : State) (q : List Instr) : (s.withPending q).meas = s.meas := rfl
@[simp] theorem withPending_inputs (s : State) (q : List Instr) : (s.withPending q).inputs = s.inputs := rfl
@[simp] theorem withPending_relays (s : State) (q : List Instr) : (s.withPending q).relays = s.relays := rfl
@[simp] theorem withPending_strings (s : State) (q : List Instr) : (s.withPending q).strings = s.strings := rfl
@[simp] theorem withPending_charge (s : State) (q : List Instr) : (s.withPending q).charge = s.charge := rfl
@[simp] theorem withPending_shelf (s : State) (q : List Instr) : (s.withPending q).shelf = s.shelf := rfl
@[simp] theorem withPending_mains (s : State) (q : List Instr) : (s.withPending q).mains = s.mains := rfl
@[simp] theorem withPending_gen (s : State) (q : List Instr) : (s.withPending q).gen = s.gen := rfl
@[simp] theorem withPending_sched (s : State) (q : List Instr) : (s.withPending q).sched = s.sched := rfl
@[simp] theorem withPending_clock (s : State) (q : List Instr) : (s.withPending q).clock = s.clock := rfl
@[simp] theorem withPending_targets (s : State) (q : List Instr) : (s.withPending q).targets = s.targets := rfl
@[simp] theorem withPending_lvd (s : State) (q : List Instr) : (s.withPending q).lvd = s.lvd := rfl
@[simp] theorem withPending_slots (s : State) (q : List Instr) : (s.withPending q).slots = s.slots := rfl
@[simp] theorem withPending_test (s : State) (q : List Instr) : (s.withPending q).test = s.test := rfl
@[simp] theorem withPending_points (s : State) (q : List Instr) : (s.withPending q).points = s.points := rfl
@[simp] theorem withPending_relaysFormed (s : State) (q : List Instr) : (s.withPending q).relaysFormed = s.relaysFormed := rfl
@[simp] theorem withPending_log (s : State) (q : List Instr) : (s.withPending q).log = s.log := rfl
@[simp] theorem withPending_mode (s : State) (q : List Instr) : (s.withPending q).mode = s.mode := rfl
@[simp] theorem withPending_link (s : State) (q : List Instr) : (s.withPending q).link = s.link := rfl

@[simp] theorem withPending_withPending (s : State) (q r : List Instr) :
    (s.withPending q).withPending r = s.withPending r := rfl

@[simp] theorem raise_toState (e : Event) (w : Work) : (raise e w).toState = w.toState := rfl
@[simp] theorem raise_agenda (e : Event) (w : Work) : (raise e w).agenda = w.agenda ++ [e] := rfl
@[simp] theorem reachMs_pending (t : Nat) (w : Work) : (reachMs t w).pending = w.pending := rfl
@[simp] theorem reachMs_powered (t : Nat) (w : Work) : (reachMs t w).powered = w.powered := rfl
@[simp] theorem reachMs_ms (t : Nat) (w : Work) : (reachMs t w).ms = max w.ms t := rfl
@[simp] theorem reachMs_tickCount (t : Nat) (w : Work) : (reachMs t w).tickCount = w.tickCount := rfl
@[simp] theorem reachMs_evalCount (t : Nat) (w : Work) : (reachMs t w).evalCount = w.evalCount := rfl
@[simp] theorem reachMs_hourCount (t : Nat) (w : Work) : (reachMs t w).hourCount = w.hourCount := rfl
@[simp] theorem reachMs_fresh (t : Nat) (w : Work) : (reachMs t w).fresh = w.fresh := rfl
@[simp] theorem reachMs_lastRestart (t : Nat) (w : Work) : (reachMs t w).lastRestart = w.lastRestart := rfl
@[simp] theorem reachMs_settingsFrom (t : Nat) (w : Work) : (reachMs t w).settingsFrom = w.settingsFrom := rfl
@[simp] theorem reachMs_settings (t : Nat) (w : Work) : (reachMs t w).settings = w.settings := rfl
@[simp] theorem reachMs_loaded (t : Nat) (w : Work) : (reachMs t w).loaded = w.loaded := rfl
@[simp] theorem reachMs_stored (t : Nat) (w : Work) : (reachMs t w).stored = w.stored := rfl
@[simp] theorem reachMs_record (t : Nat) (w : Work) : (reachMs t w).record = w.record := rfl
@[simp] theorem reachMs_storePending (t : Nat) (w : Work) : (reachMs t w).storePending = w.storePending := rfl
@[simp] theorem reachMs_meas (t : Nat) (w : Work) : (reachMs t w).meas = w.meas := rfl
@[simp] theorem reachMs_inputs (t : Nat) (w : Work) : (reachMs t w).inputs = w.inputs := rfl
@[simp] theorem reachMs_relays (t : Nat) (w : Work) : (reachMs t w).relays = w.relays := rfl
@[simp] theorem reachMs_strings (t : Nat) (w : Work) : (reachMs t w).strings = w.strings := rfl
@[simp] theorem reachMs_charge (t : Nat) (w : Work) : (reachMs t w).charge = w.charge := rfl
@[simp] theorem reachMs_shelf (t : Nat) (w : Work) : (reachMs t w).shelf = w.shelf := rfl
@[simp] theorem reachMs_mains (t : Nat) (w : Work) : (reachMs t w).mains = w.mains := rfl
@[simp] theorem reachMs_gen (t : Nat) (w : Work) : (reachMs t w).gen = w.gen := rfl
@[simp] theorem reachMs_sched (t : Nat) (w : Work) : (reachMs t w).sched = w.sched := rfl
@[simp] theorem reachMs_clock (t : Nat) (w : Work) : (reachMs t w).clock = w.clock := rfl
@[simp] theorem reachMs_targets (t : Nat) (w : Work) : (reachMs t w).targets = w.targets := rfl
@[simp] theorem reachMs_lvd (t : Nat) (w : Work) : (reachMs t w).lvd = w.lvd := rfl
@[simp] theorem reachMs_slots (t : Nat) (w : Work) : (reachMs t w).slots = w.slots := rfl
@[simp] theorem reachMs_test (t : Nat) (w : Work) : (reachMs t w).test = w.test := rfl
@[simp] theorem reachMs_points (t : Nat) (w : Work) : (reachMs t w).points = w.points := rfl
@[simp] theorem reachMs_relaysFormed (t : Nat) (w : Work) : (reachMs t w).relaysFormed = w.relaysFormed := rfl
@[simp] theorem reachMs_log (t : Nat) (w : Work) : (reachMs t w).log = w.log := rfl
@[simp] theorem reachMs_mode (t : Nat) (w : Work) : (reachMs t w).mode = w.mode := rfl
@[simp] theorem reachMs_link (t : Nat) (w : Work) : (reachMs t w).link = w.link := rfl
@[simp] theorem reachMs_agenda (t : Nat) (w : Work) : (reachMs t w).agenda = w.agenda := rfl

@[simp] theorem writeLog_pending (k : LogKind) (n : Nat) (o : Origin) (d : Option Int) (w : Work) :
    (writeLog k n o d w).pending = w.pending := rfl
@[simp] theorem writeLog_powered (k : LogKind) (n : Nat) (o : Origin) (d : Option Int) (w : Work) :
    (writeLog k n o d w).powered = w.powered := rfl
@[simp] theorem writeLog_ms (k : LogKind) (n : Nat) (o : Origin) (d : Option Int) (w : Work) :
    (writeLog k n o d w).ms = w.ms := rfl
@[simp] theorem writeLog_tickCount (k : LogKind) (n : Nat) (o : Origin) (d : Option Int) (w : Work) :
    (writeLog k n o d w).tickCount = w.tickCount := rfl
@[simp] theorem writeLog_evalCount (k : LogKind) (n : Nat) (o : Origin) (d : Option Int) (w : Work) :
    (writeLog k n o d w).evalCount = w.evalCount := rfl
@[simp] theorem writeLog_hourCount (k : LogKind) (n : Nat) (o : Origin) (d : Option Int) (w : Work) :
    (writeLog k n o d w).hourCount = w.hourCount := rfl
@[simp] theorem writeLog_fresh (k : LogKind) (n : Nat) (o : Origin) (d : Option Int) (w : Work) :
    (writeLog k n o d w).fresh = w.fresh := rfl
@[simp] theorem writeLog_lastRestart (k : LogKind) (n : Nat) (o : Origin) (d : Option Int) (w : Work) :
    (writeLog k n o d w).lastRestart = w.lastRestart := rfl
@[simp] theorem writeLog_settingsFrom (k : LogKind) (n : Nat) (o : Origin) (d : Option Int) (w : Work) :
    (writeLog k n o d w).settingsFrom = w.settingsFrom := rfl
@[simp] theorem writeLog_settings (k : LogKind) (n : Nat) (o : Origin) (d : Option Int) (w : Work) :
    (writeLog k n o d w).settings = w.settings := rfl
@[simp] theorem writeLog_loaded (k : LogKind) (n : Nat) (o : Origin) (d : Option Int) (w : Work) :
    (writeLog k n o d w).loaded = w.loaded := rfl
@[simp] theorem writeLog_stored (k : LogKind) (n : Nat) (o : Origin) (d : Option Int) (w : Work) :
    (writeLog k n o d w).stored = w.stored := rfl
@[simp] theorem writeLog_record (k : LogKind) (n : Nat) (o : Origin) (d : Option Int) (w : Work) :
    (writeLog k n o d w).record = w.record := rfl
@[simp] theorem writeLog_storePending (k : LogKind) (n : Nat) (o : Origin) (d : Option Int) (w : Work) :
    (writeLog k n o d w).storePending = w.storePending := rfl
@[simp] theorem writeLog_meas (k : LogKind) (n : Nat) (o : Origin) (d : Option Int) (w : Work) :
    (writeLog k n o d w).meas = w.meas := rfl
@[simp] theorem writeLog_inputs (k : LogKind) (n : Nat) (o : Origin) (d : Option Int) (w : Work) :
    (writeLog k n o d w).inputs = w.inputs := rfl
@[simp] theorem writeLog_relays (k : LogKind) (n : Nat) (o : Origin) (d : Option Int) (w : Work) :
    (writeLog k n o d w).relays = w.relays := rfl
@[simp] theorem writeLog_strings (k : LogKind) (n : Nat) (o : Origin) (d : Option Int) (w : Work) :
    (writeLog k n o d w).strings = w.strings := rfl
@[simp] theorem writeLog_charge (k : LogKind) (n : Nat) (o : Origin) (d : Option Int) (w : Work) :
    (writeLog k n o d w).charge = w.charge := rfl
@[simp] theorem writeLog_shelf (k : LogKind) (n : Nat) (o : Origin) (d : Option Int) (w : Work) :
    (writeLog k n o d w).shelf = w.shelf := rfl
@[simp] theorem writeLog_mains (k : LogKind) (n : Nat) (o : Origin) (d : Option Int) (w : Work) :
    (writeLog k n o d w).mains = w.mains := rfl
@[simp] theorem writeLog_gen (k : LogKind) (n : Nat) (o : Origin) (d : Option Int) (w : Work) :
    (writeLog k n o d w).gen = w.gen := rfl
@[simp] theorem writeLog_sched (k : LogKind) (n : Nat) (o : Origin) (d : Option Int) (w : Work) :
    (writeLog k n o d w).sched = w.sched := rfl
@[simp] theorem writeLog_clock (k : LogKind) (n : Nat) (o : Origin) (d : Option Int) (w : Work) :
    (writeLog k n o d w).clock = w.clock := rfl
@[simp] theorem writeLog_targets (k : LogKind) (n : Nat) (o : Origin) (d : Option Int) (w : Work) :
    (writeLog k n o d w).targets = w.targets := rfl
@[simp] theorem writeLog_lvd (k : LogKind) (n : Nat) (o : Origin) (d : Option Int) (w : Work) :
    (writeLog k n o d w).lvd = w.lvd := rfl
@[simp] theorem writeLog_slots (k : LogKind) (n : Nat) (o : Origin) (d : Option Int) (w : Work) :
    (writeLog k n o d w).slots = w.slots := rfl
@[simp] theorem writeLog_test (k : LogKind) (n : Nat) (o : Origin) (d : Option Int) (w : Work) :
    (writeLog k n o d w).test = w.test := rfl
@[simp] theorem writeLog_points (k : LogKind) (n : Nat) (o : Origin) (d : Option Int) (w : Work) :
    (writeLog k n o d w).points = w.points := rfl
@[simp] theorem writeLog_relaysFormed (k : LogKind) (n : Nat) (o : Origin) (d : Option Int) (w : Work) :
    (writeLog k n o d w).relaysFormed = w.relaysFormed := rfl
@[simp] theorem writeLog_log (k : LogKind) (n : Nat) (o : Origin) (d : Option Int) (w : Work) :
    (writeLog k n o d w).log = logAppend w.log w.siteSeconds k n o d := rfl
@[simp] theorem writeLog_mode (k : LogKind) (n : Nat) (o : Origin) (d : Option Int) (w : Work) :
    (writeLog k n o d w).mode = w.mode := rfl
@[simp] theorem writeLog_link (k : LogKind) (n : Nat) (o : Origin) (d : Option Int) (w : Work) :
    (writeLog k n o d w).link = w.link := rfl
@[simp] theorem writeLog_agenda (k : LogKind) (n : Nat) (o : Origin) (d : Option Int) (w : Work) :
    (writeLog k n o d w).agenda = w.agenda := rfl

/-! ## The relays (R25) -/

@[simp] theorem setRelay_pending (r : Fin 14) (on : Bool) (w : Work) : (setRelay r on w).pending = w.pending := by
  unfold setRelay; split <;> rfl
@[simp] theorem setRelay_powered (r : Fin 14) (on : Bool) (w : Work) : (setRelay r on w).powered = w.powered := by
  unfold setRelay; split <;> rfl
@[simp] theorem setRelay_ms (r : Fin 14) (on : Bool) (w : Work) : (setRelay r on w).ms = w.ms := by
  unfold setRelay; split <;> rfl
@[simp] theorem setRelay_tickCount (r : Fin 14) (on : Bool) (w : Work) : (setRelay r on w).tickCount = w.tickCount := by
  unfold setRelay; split <;> rfl
@[simp] theorem setRelay_evalCount (r : Fin 14) (on : Bool) (w : Work) : (setRelay r on w).evalCount = w.evalCount := by
  unfold setRelay; split <;> rfl
@[simp] theorem setRelay_hourCount (r : Fin 14) (on : Bool) (w : Work) : (setRelay r on w).hourCount = w.hourCount := by
  unfold setRelay; split <;> rfl
@[simp] theorem setRelay_fresh (r : Fin 14) (on : Bool) (w : Work) : (setRelay r on w).fresh = w.fresh := by
  unfold setRelay; split <;> rfl
@[simp] theorem setRelay_lastRestart (r : Fin 14) (on : Bool) (w : Work) : (setRelay r on w).lastRestart = w.lastRestart := by
  unfold setRelay; split <;> rfl
@[simp] theorem setRelay_settingsFrom (r : Fin 14) (on : Bool) (w : Work) : (setRelay r on w).settingsFrom = w.settingsFrom := by
  unfold setRelay; split <;> rfl
@[simp] theorem setRelay_settings (r : Fin 14) (on : Bool) (w : Work) : (setRelay r on w).settings = w.settings := by
  unfold setRelay; split <;> rfl
@[simp] theorem setRelay_loaded (r : Fin 14) (on : Bool) (w : Work) : (setRelay r on w).loaded = w.loaded := by
  unfold setRelay; split <;> rfl
@[simp] theorem setRelay_stored (r : Fin 14) (on : Bool) (w : Work) : (setRelay r on w).stored = w.stored := by
  unfold setRelay; split <;> rfl
@[simp] theorem setRelay_record (r : Fin 14) (on : Bool) (w : Work) : (setRelay r on w).record = w.record := by
  unfold setRelay; split <;> rfl
@[simp] theorem setRelay_storePending (r : Fin 14) (on : Bool) (w : Work) : (setRelay r on w).storePending = w.storePending := by
  unfold setRelay; split <;> rfl
@[simp] theorem setRelay_meas (r : Fin 14) (on : Bool) (w : Work) : (setRelay r on w).meas = w.meas := by
  unfold setRelay; split <;> rfl
@[simp] theorem setRelay_inputs (r : Fin 14) (on : Bool) (w : Work) : (setRelay r on w).inputs = w.inputs := by
  unfold setRelay; split <;> rfl
@[simp] theorem setRelay_strings (r : Fin 14) (on : Bool) (w : Work) : (setRelay r on w).strings = w.strings := by
  unfold setRelay; split <;> rfl
@[simp] theorem setRelay_charge (r : Fin 14) (on : Bool) (w : Work) : (setRelay r on w).charge = w.charge := by
  unfold setRelay; split <;> rfl
@[simp] theorem setRelay_shelf (r : Fin 14) (on : Bool) (w : Work) : (setRelay r on w).shelf = w.shelf := by
  unfold setRelay; split <;> rfl
@[simp] theorem setRelay_mains (r : Fin 14) (on : Bool) (w : Work) : (setRelay r on w).mains = w.mains := by
  unfold setRelay; split <;> rfl
@[simp] theorem setRelay_gen (r : Fin 14) (on : Bool) (w : Work) : (setRelay r on w).gen = w.gen := by
  unfold setRelay; split <;> rfl
@[simp] theorem setRelay_sched (r : Fin 14) (on : Bool) (w : Work) : (setRelay r on w).sched = w.sched := by
  unfold setRelay; split <;> rfl
@[simp] theorem setRelay_clock (r : Fin 14) (on : Bool) (w : Work) : (setRelay r on w).clock = w.clock := by
  unfold setRelay; split <;> rfl
@[simp] theorem setRelay_targets (r : Fin 14) (on : Bool) (w : Work) : (setRelay r on w).targets = w.targets := by
  unfold setRelay; split <;> rfl
@[simp] theorem setRelay_lvd (r : Fin 14) (on : Bool) (w : Work) : (setRelay r on w).lvd = w.lvd := by
  unfold setRelay; split <;> rfl
@[simp] theorem setRelay_slots (r : Fin 14) (on : Bool) (w : Work) : (setRelay r on w).slots = w.slots := by
  unfold setRelay; split <;> rfl
@[simp] theorem setRelay_test (r : Fin 14) (on : Bool) (w : Work) : (setRelay r on w).test = w.test := by
  unfold setRelay; split <;> rfl
@[simp] theorem setRelay_points (r : Fin 14) (on : Bool) (w : Work) : (setRelay r on w).points = w.points := by
  unfold setRelay; split <;> rfl
@[simp] theorem setRelay_relaysFormed (r : Fin 14) (on : Bool) (w : Work) : (setRelay r on w).relaysFormed = w.relaysFormed := by
  unfold setRelay; split <;> rfl
@[simp] theorem setRelay_log (r : Fin 14) (on : Bool) (w : Work) : (setRelay r on w).log = w.log := by
  unfold setRelay; split <;> rfl
@[simp] theorem setRelay_mode (r : Fin 14) (on : Bool) (w : Work) : (setRelay r on w).mode = w.mode := by
  unfold setRelay; split <;> rfl
@[simp] theorem setRelay_link (r : Fin 14) (on : Bool) (w : Work) : (setRelay r on w).link = w.link := by
  unfold setRelay; split <;> rfl
@[simp] theorem setRelay_agenda (r : Fin 14) (on : Bool) (w : Work) : (setRelay r on w).agenda = w.agenda := by
  unfold setRelay; split <;> rfl

/-- R25: after a drive, the relay driven has it and every other relay is as before. -/
theorem setRelay_relayOn (r q : Fin 14) (on : Bool) (w : Work) :
    (setRelay r on w).relayOn q = if q = r then on else w.relayOn q := by
  unfold setRelay State.relayOn
  split
  · next h =>
    split
    · next hq => subst hq; simpa using h
    · rfl
  · simp only [Table.get_set]
    split <;> rfl

@[simp] theorem setRelay_relayOn_same (r : Fin 14) (on : Bool) (w : Work) : (setRelay r on w).relayOn r = on := by
  simp [setRelay_relayOn]

theorem setRelay_relayOn_ne (r q : Fin 14) (on : Bool) (w : Work) (h : q ≠ r) :
    (setRelay r on w).relayOn q = w.relayOn q := by
  simp [setRelay_relayOn, h]

/-- R25: a relay's record after a drive: both fields stay when it has the drive, and both are written when it has not. -/
theorem setRelay_relays (r : Fin 14) (on : Bool) (w : Work) :
    (setRelay r on w).relays = if w.relayOn r = on then w.relays else w.relays.set r ⟨on, w.siteSeconds⟩ := by
  unfold setRelay
  by_cases h : w.relayOn r = on <;> simp [h]

/-! ## The severity relays and the points (R148, R150, R154) -/

@[simp] theorem formSeverityRelays_pending (w : Work) : (formSeverityRelays w).pending = w.pending := by
  unfold formSeverityRelays; split <;> simp
@[simp] theorem formSeverityRelays_powered (w : Work) : (formSeverityRelays w).powered = w.powered := by
  unfold formSeverityRelays; split <;> simp
@[simp] theorem formSeverityRelays_ms (w : Work) : (formSeverityRelays w).ms = w.ms := by
  unfold formSeverityRelays; split <;> simp
@[simp] theorem formSeverityRelays_tickCount (w : Work) : (formSeverityRelays w).tickCount = w.tickCount := by
  unfold formSeverityRelays; split <;> simp
@[simp] theorem formSeverityRelays_evalCount (w : Work) : (formSeverityRelays w).evalCount = w.evalCount := by
  unfold formSeverityRelays; split <;> simp
@[simp] theorem formSeverityRelays_hourCount (w : Work) : (formSeverityRelays w).hourCount = w.hourCount := by
  unfold formSeverityRelays; split <;> simp
@[simp] theorem formSeverityRelays_fresh (w : Work) : (formSeverityRelays w).fresh = w.fresh := by
  unfold formSeverityRelays; split <;> simp
@[simp] theorem formSeverityRelays_lastRestart (w : Work) : (formSeverityRelays w).lastRestart = w.lastRestart := by
  unfold formSeverityRelays; split <;> simp
@[simp] theorem formSeverityRelays_settingsFrom (w : Work) : (formSeverityRelays w).settingsFrom = w.settingsFrom := by
  unfold formSeverityRelays; split <;> simp
@[simp] theorem formSeverityRelays_settings (w : Work) : (formSeverityRelays w).settings = w.settings := by
  unfold formSeverityRelays; split <;> simp
@[simp] theorem formSeverityRelays_loaded (w : Work) : (formSeverityRelays w).loaded = w.loaded := by
  unfold formSeverityRelays; split <;> simp
@[simp] theorem formSeverityRelays_stored (w : Work) : (formSeverityRelays w).stored = w.stored := by
  unfold formSeverityRelays; split <;> simp
@[simp] theorem formSeverityRelays_record (w : Work) : (formSeverityRelays w).record = w.record := by
  unfold formSeverityRelays; split <;> simp
@[simp] theorem formSeverityRelays_storePending (w : Work) : (formSeverityRelays w).storePending = w.storePending := by
  unfold formSeverityRelays; split <;> simp
@[simp] theorem formSeverityRelays_meas (w : Work) : (formSeverityRelays w).meas = w.meas := by
  unfold formSeverityRelays; split <;> simp
@[simp] theorem formSeverityRelays_inputs (w : Work) : (formSeverityRelays w).inputs = w.inputs := by
  unfold formSeverityRelays; split <;> simp
@[simp] theorem formSeverityRelays_strings (w : Work) : (formSeverityRelays w).strings = w.strings := by
  unfold formSeverityRelays; split <;> simp
@[simp] theorem formSeverityRelays_charge (w : Work) : (formSeverityRelays w).charge = w.charge := by
  unfold formSeverityRelays; split <;> simp
@[simp] theorem formSeverityRelays_shelf (w : Work) : (formSeverityRelays w).shelf = w.shelf := by
  unfold formSeverityRelays; split <;> simp
@[simp] theorem formSeverityRelays_mains (w : Work) : (formSeverityRelays w).mains = w.mains := by
  unfold formSeverityRelays; split <;> simp
@[simp] theorem formSeverityRelays_gen (w : Work) : (formSeverityRelays w).gen = w.gen := by
  unfold formSeverityRelays; split <;> simp
@[simp] theorem formSeverityRelays_sched (w : Work) : (formSeverityRelays w).sched = w.sched := by
  unfold formSeverityRelays; split <;> simp
@[simp] theorem formSeverityRelays_clock (w : Work) : (formSeverityRelays w).clock = w.clock := by
  unfold formSeverityRelays; split <;> simp
@[simp] theorem formSeverityRelays_targets (w : Work) : (formSeverityRelays w).targets = w.targets := by
  unfold formSeverityRelays; split <;> simp
@[simp] theorem formSeverityRelays_lvd (w : Work) : (formSeverityRelays w).lvd = w.lvd := by
  unfold formSeverityRelays; split <;> simp
@[simp] theorem formSeverityRelays_slots (w : Work) : (formSeverityRelays w).slots = w.slots := by
  unfold formSeverityRelays; split <;> simp
@[simp] theorem formSeverityRelays_test (w : Work) : (formSeverityRelays w).test = w.test := by
  unfold formSeverityRelays; split <;> simp
@[simp] theorem formSeverityRelays_points (w : Work) : (formSeverityRelays w).points = w.points := by
  unfold formSeverityRelays; split <;> simp
@[simp] theorem formSeverityRelays_relaysFormed (w : Work) : (formSeverityRelays w).relaysFormed = w.relaysFormed := by
  unfold formSeverityRelays; split <;> simp
@[simp] theorem formSeverityRelays_log (w : Work) : (formSeverityRelays w).log = w.log := by
  unfold formSeverityRelays; split <;> simp
@[simp] theorem formSeverityRelays_mode (w : Work) : (formSeverityRelays w).mode = w.mode := by
  unfold formSeverityRelays; split <;> simp
@[simp] theorem formSeverityRelays_link (w : Work) : (formSeverityRelays w).link = w.link := by
  unfold formSeverityRelays; split <;> simp
@[simp] theorem formSeverityRelays_agenda (w : Work) : (formSeverityRelays w).agenda = w.agenda := by
  unfold formSeverityRelays; split <;> simp

@[simp] theorem movePoint_pending (p : Fin 41) (st : PointState) (w : Work) : (movePoint p st w).pending = w.pending := by
  simp [movePoint]
@[simp] theorem movePoint_powered (p : Fin 41) (st : PointState) (w : Work) : (movePoint p st w).powered = w.powered := by
  simp [movePoint]
@[simp] theorem movePoint_ms (p : Fin 41) (st : PointState) (w : Work) : (movePoint p st w).ms = w.ms := by
  simp [movePoint]
@[simp] theorem movePoint_tickCount (p : Fin 41) (st : PointState) (w : Work) : (movePoint p st w).tickCount = w.tickCount := by
  simp [movePoint]
@[simp] theorem movePoint_evalCount (p : Fin 41) (st : PointState) (w : Work) : (movePoint p st w).evalCount = w.evalCount := by
  simp [movePoint]
@[simp] theorem movePoint_hourCount (p : Fin 41) (st : PointState) (w : Work) : (movePoint p st w).hourCount = w.hourCount := by
  simp [movePoint]
@[simp] theorem movePoint_fresh (p : Fin 41) (st : PointState) (w : Work) : (movePoint p st w).fresh = w.fresh := by
  simp [movePoint]
@[simp] theorem movePoint_lastRestart (p : Fin 41) (st : PointState) (w : Work) : (movePoint p st w).lastRestart = w.lastRestart := by
  simp [movePoint]
@[simp] theorem movePoint_settingsFrom (p : Fin 41) (st : PointState) (w : Work) : (movePoint p st w).settingsFrom = w.settingsFrom := by
  simp [movePoint]
@[simp] theorem movePoint_settings (p : Fin 41) (st : PointState) (w : Work) : (movePoint p st w).settings = w.settings := by
  simp [movePoint]
@[simp] theorem movePoint_loaded (p : Fin 41) (st : PointState) (w : Work) : (movePoint p st w).loaded = w.loaded := by
  simp [movePoint]
@[simp] theorem movePoint_stored (p : Fin 41) (st : PointState) (w : Work) : (movePoint p st w).stored = w.stored := by
  simp [movePoint]
@[simp] theorem movePoint_record (p : Fin 41) (st : PointState) (w : Work) : (movePoint p st w).record = w.record := by
  simp [movePoint]
@[simp] theorem movePoint_storePending (p : Fin 41) (st : PointState) (w : Work) : (movePoint p st w).storePending = w.storePending := by
  simp [movePoint]
@[simp] theorem movePoint_meas (p : Fin 41) (st : PointState) (w : Work) : (movePoint p st w).meas = w.meas := by
  simp [movePoint]
@[simp] theorem movePoint_inputs (p : Fin 41) (st : PointState) (w : Work) : (movePoint p st w).inputs = w.inputs := by
  simp [movePoint]
@[simp] theorem movePoint_strings (p : Fin 41) (st : PointState) (w : Work) : (movePoint p st w).strings = w.strings := by
  simp [movePoint]
@[simp] theorem movePoint_charge (p : Fin 41) (st : PointState) (w : Work) : (movePoint p st w).charge = w.charge := by
  simp [movePoint]
@[simp] theorem movePoint_shelf (p : Fin 41) (st : PointState) (w : Work) : (movePoint p st w).shelf = w.shelf := by
  simp [movePoint]
@[simp] theorem movePoint_mains (p : Fin 41) (st : PointState) (w : Work) : (movePoint p st w).mains = w.mains := by
  simp [movePoint]
@[simp] theorem movePoint_gen (p : Fin 41) (st : PointState) (w : Work) : (movePoint p st w).gen = w.gen := by
  simp [movePoint]
@[simp] theorem movePoint_sched (p : Fin 41) (st : PointState) (w : Work) : (movePoint p st w).sched = w.sched := by
  simp [movePoint]
@[simp] theorem movePoint_clock (p : Fin 41) (st : PointState) (w : Work) : (movePoint p st w).clock = w.clock := by
  simp [movePoint]
@[simp] theorem movePoint_targets (p : Fin 41) (st : PointState) (w : Work) : (movePoint p st w).targets = w.targets := by
  simp [movePoint]
@[simp] theorem movePoint_lvd (p : Fin 41) (st : PointState) (w : Work) : (movePoint p st w).lvd = w.lvd := by
  simp [movePoint]
@[simp] theorem movePoint_slots (p : Fin 41) (st : PointState) (w : Work) : (movePoint p st w).slots = w.slots := by
  simp [movePoint]
@[simp] theorem movePoint_test (p : Fin 41) (st : PointState) (w : Work) : (movePoint p st w).test = w.test := by
  simp [movePoint]
@[simp] theorem movePoint_relaysFormed (p : Fin 41) (st : PointState) (w : Work) : (movePoint p st w).relaysFormed = w.relaysFormed := by
  simp [movePoint]
@[simp] theorem movePoint_log (p : Fin 41) (st : PointState) (w : Work) : (movePoint p st w).log = w.log := by
  simp [movePoint]
@[simp] theorem movePoint_mode (p : Fin 41) (st : PointState) (w : Work) : (movePoint p st w).mode = w.mode := by
  simp [movePoint]
@[simp] theorem movePoint_link (p : Fin 41) (st : PointState) (w : Work) : (movePoint p st w).link = w.link := by
  simp [movePoint]
@[simp] theorem movePoint_agenda (p : Fin 41) (st : PointState) (w : Work) :
    (movePoint p st w).agenda = w.agenda ++ [.pointMoved p] := by
  simp [movePoint]

/-- R148: the point that a move names has its new state, and is not escalated. -/
theorem movePoint_state (p q : Fin 41) (st : PointState) (w : Work) :
    ((movePoint p st w).points.get q).state = if q = p then st else (w.points.get q).state := by
  simp only [movePoint, raise_toState, formSeverityRelays_points, Table.get_set]
  split <;> rfl

/-! ## The shelf's figures in force (R81) -/

@[simp] theorem takeFigures_inForce (w : Work) : (takeFigures w).shelf.inForce = w.shelfFigures := rfl
@[simp] theorem takeFigures_shelf_modules (w : Work) : (takeFigures w).shelf.modules = w.shelf.modules := rfl
@[simp] theorem takeFigures_shelf_iDemand (w : Work) : (takeFigures w).shelf.iDemand = w.shelf.iDemand := rfl
@[simp] theorem takeFigures_shelf_nReq (w : Work) : (takeFigures w).shelf.nReq = w.shelf.nReq := rfl
@[simp] theorem takeFigures_shelf_nReqUnclamped (w : Work) : (takeFigures w).shelf.nReqUnclamped = w.shelf.nReqUnclamped := rfl
@[simp] theorem takeFigures_shelf_target (w : Work) : (takeFigures w).shelf.target = w.shelf.target := rfl
@[simp] theorem takeFigures_shelf_lTot (w : Work) : (takeFigures w).shelf.lTot = w.shelf.lTot := rfl
@[simp] theorem takeFigures_shelf_ramp (w : Work) : (takeFigures w).shelf.ramp = w.shelf.ramp := rfl
@[simp] theorem takeFigures_shelf_shedTimer (w : Work) : (takeFigures w).shelf.shedTimer = w.shelf.shedTimer := rfl
@[simp] theorem takeFigures_shelf_rotMinutes (w : Work) : (takeFigures w).shelf.rotMinutes = w.shelf.rotMinutes := rfl
@[simp] theorem takeFigures_shelf_cycle (w : Work) : (takeFigures w).shelf.cycle = w.shelf.cycle := rfl
@[simp] theorem takeFigures_shelf_plan (w : Work) : (takeFigures w).shelf.plan = w.shelf.plan := rfl
@[simp] theorem takeFigures_shelf_rotation (w : Work) : (takeFigures w).shelf.rotation = w.shelf.rotation := rfl
@[simp] theorem takeFigures_pending (w : Work) : (takeFigures w).pending = w.pending := rfl
@[simp] theorem takeFigures_powered (w : Work) : (takeFigures w).powered = w.powered := rfl
@[simp] theorem takeFigures_ms (w : Work) : (takeFigures w).ms = w.ms := rfl
@[simp] theorem takeFigures_tickCount (w : Work) : (takeFigures w).tickCount = w.tickCount := rfl
@[simp] theorem takeFigures_evalCount (w : Work) : (takeFigures w).evalCount = w.evalCount := rfl
@[simp] theorem takeFigures_hourCount (w : Work) : (takeFigures w).hourCount = w.hourCount := rfl
@[simp] theorem takeFigures_fresh (w : Work) : (takeFigures w).fresh = w.fresh := rfl
@[simp] theorem takeFigures_lastRestart (w : Work) : (takeFigures w).lastRestart = w.lastRestart := rfl
@[simp] theorem takeFigures_settingsFrom (w : Work) : (takeFigures w).settingsFrom = w.settingsFrom := rfl
@[simp] theorem takeFigures_settings (w : Work) : (takeFigures w).settings = w.settings := rfl
@[simp] theorem takeFigures_loaded (w : Work) : (takeFigures w).loaded = w.loaded := rfl
@[simp] theorem takeFigures_stored (w : Work) : (takeFigures w).stored = w.stored := rfl
@[simp] theorem takeFigures_record (w : Work) : (takeFigures w).record = w.record := rfl
@[simp] theorem takeFigures_storePending (w : Work) : (takeFigures w).storePending = w.storePending := rfl
@[simp] theorem takeFigures_meas (w : Work) : (takeFigures w).meas = w.meas := rfl
@[simp] theorem takeFigures_inputs (w : Work) : (takeFigures w).inputs = w.inputs := rfl
@[simp] theorem takeFigures_relays (w : Work) : (takeFigures w).relays = w.relays := rfl
@[simp] theorem takeFigures_strings (w : Work) : (takeFigures w).strings = w.strings := rfl
@[simp] theorem takeFigures_charge (w : Work) : (takeFigures w).charge = w.charge := rfl
@[simp] theorem takeFigures_mains (w : Work) : (takeFigures w).mains = w.mains := rfl
@[simp] theorem takeFigures_gen (w : Work) : (takeFigures w).gen = w.gen := rfl
@[simp] theorem takeFigures_sched (w : Work) : (takeFigures w).sched = w.sched := rfl
@[simp] theorem takeFigures_clock (w : Work) : (takeFigures w).clock = w.clock := rfl
@[simp] theorem takeFigures_targets (w : Work) : (takeFigures w).targets = w.targets := rfl
@[simp] theorem takeFigures_lvd (w : Work) : (takeFigures w).lvd = w.lvd := rfl
@[simp] theorem takeFigures_slots (w : Work) : (takeFigures w).slots = w.slots := rfl
@[simp] theorem takeFigures_test (w : Work) : (takeFigures w).test = w.test := rfl
@[simp] theorem takeFigures_points (w : Work) : (takeFigures w).points = w.points := rfl
@[simp] theorem takeFigures_relaysFormed (w : Work) : (takeFigures w).relaysFormed = w.relaysFormed := rfl
@[simp] theorem takeFigures_log (w : Work) : (takeFigures w).log = w.log := rfl
@[simp] theorem takeFigures_mode (w : Work) : (takeFigures w).mode = w.mode := rfl
@[simp] theorem takeFigures_link (w : Work) : (takeFigures w).link = w.link := rfl
@[simp] theorem takeFigures_agenda (w : Work) : (takeFigures w).agenda = w.agenda := rfl

/-- R79, R81: at a poll cycle completion the required count is formed by the working settings. -/
@[simp] theorem takeFigures_required (w : Work) (d : Nat) :
    (takeFigures w).required d = ceilDiv (d * 100) (w.setting 0x0300 * w.setting 0x0301) + w.setting 0x0302 := rfl

/-- R82, R81: at a poll cycle completion the target is formed by the working settings. -/
theorem takeFigures_formedTarget (w : Work) (d : Nat) :
    (takeFigures w).formedTarget d =
      let t := min d (w.energizedCount * w.setting 0x0300)
      if w.mains.source == .generator then min t (w.setting 0x0306) else t := rfl

/-! ## The levels of the fuel reserve in force (R117) -/

@[simp] theorem takeLevels_levels (w : Work) : (takeLevels w).sched.levels = w.fuelLevels := rfl
@[simp] theorem takeLevels_sched_latch (w : Work) : (takeLevels w).sched.latch = w.sched.latch := rfl
@[simp] theorem takeLevels_sched_reserve (w : Work) : (takeLevels w).sched.reserve = w.sched.reserve := rfl
@[simp] theorem takeLevels_sched_estimate (w : Work) : (takeLevels w).sched.estimate = w.sched.estimate := rfl
@[simp] theorem takeLevels_sched_loadedS (w : Work) : (takeLevels w).sched.loadedS = w.sched.loadedS := rfl
@[simp] theorem takeLevels_sched_runningS (w : Work) : (takeLevels w).sched.runningS = w.sched.runningS := rfl
@[simp] theorem takeLevels_sched_lastEval (w : Work) : (takeLevels w).sched.lastEval = w.sched.lastEval := rfl
@[simp] theorem takeLevels_sched_outcome (w : Work) : (takeLevels w).sched.outcome = w.sched.outcome := rfl
@[simp] theorem takeLevels_sched_evaluated (w : Work) : (takeLevels w).sched.evaluated = w.sched.evaluated := rfl
@[simp] theorem takeLevels_pending (w : Work) : (takeLevels w).pending = w.pending := rfl
@[simp] theorem takeLevels_powered (w : Work) : (takeLevels w).powered = w.powered := rfl
@[simp] theorem takeLevels_ms (w : Work) : (takeLevels w).ms = w.ms := rfl
@[simp] theorem takeLevels_tickCount (w : Work) : (takeLevels w).tickCount = w.tickCount := rfl
@[simp] theorem takeLevels_evalCount (w : Work) : (takeLevels w).evalCount = w.evalCount := rfl
@[simp] theorem takeLevels_hourCount (w : Work) : (takeLevels w).hourCount = w.hourCount := rfl
@[simp] theorem takeLevels_fresh (w : Work) : (takeLevels w).fresh = w.fresh := rfl
@[simp] theorem takeLevels_lastRestart (w : Work) : (takeLevels w).lastRestart = w.lastRestart := rfl
@[simp] theorem takeLevels_settingsFrom (w : Work) : (takeLevels w).settingsFrom = w.settingsFrom := rfl
@[simp] theorem takeLevels_settings (w : Work) : (takeLevels w).settings = w.settings := rfl
@[simp] theorem takeLevels_loaded (w : Work) : (takeLevels w).loaded = w.loaded := rfl
@[simp] theorem takeLevels_stored (w : Work) : (takeLevels w).stored = w.stored := rfl
@[simp] theorem takeLevels_record (w : Work) : (takeLevels w).record = w.record := rfl
@[simp] theorem takeLevels_storePending (w : Work) : (takeLevels w).storePending = w.storePending := rfl
@[simp] theorem takeLevels_meas (w : Work) : (takeLevels w).meas = w.meas := rfl
@[simp] theorem takeLevels_inputs (w : Work) : (takeLevels w).inputs = w.inputs := rfl
@[simp] theorem takeLevels_relays (w : Work) : (takeLevels w).relays = w.relays := rfl
@[simp] theorem takeLevels_strings (w : Work) : (takeLevels w).strings = w.strings := rfl
@[simp] theorem takeLevels_charge (w : Work) : (takeLevels w).charge = w.charge := rfl
@[simp] theorem takeLevels_shelf (w : Work) : (takeLevels w).shelf = w.shelf := rfl
@[simp] theorem takeLevels_mains (w : Work) : (takeLevels w).mains = w.mains := rfl
@[simp] theorem takeLevels_gen (w : Work) : (takeLevels w).gen = w.gen := rfl
@[simp] theorem takeLevels_clock (w : Work) : (takeLevels w).clock = w.clock := rfl
@[simp] theorem takeLevels_targets (w : Work) : (takeLevels w).targets = w.targets := rfl
@[simp] theorem takeLevels_lvd (w : Work) : (takeLevels w).lvd = w.lvd := rfl
@[simp] theorem takeLevels_slots (w : Work) : (takeLevels w).slots = w.slots := rfl
@[simp] theorem takeLevels_test (w : Work) : (takeLevels w).test = w.test := rfl
@[simp] theorem takeLevels_points (w : Work) : (takeLevels w).points = w.points := rfl
@[simp] theorem takeLevels_relaysFormed (w : Work) : (takeLevels w).relaysFormed = w.relaysFormed := rfl
@[simp] theorem takeLevels_log (w : Work) : (takeLevels w).log = w.log := rfl
@[simp] theorem takeLevels_mode (w : Work) : (takeLevels w).mode = w.mode := rfl
@[simp] theorem takeLevels_link (w : Work) : (takeLevels w).link = w.link := rfl
@[simp] theorem takeLevels_agenda (w : Work) : (takeLevels w).agenda = w.agenda := rfl

/-- R116, R117: at an evaluation the reserve is formed by the working settings. -/
theorem takeLevels_reserveAfter (w : Work) (before : Bool) :
    (takeLevels w).reserveAfter before =
      if before then !(decide (w.setting 0x050C + w.setting 0x050D ≤ w.sched.estimate) && !w.active iFuelLow)
      else decide (w.sched.estimate ≤ w.setting 0x050C) || w.active iFuelLow := rfl

end Sys2Proof.Machine
end

