-- ==== Sys2Proof/Laws/Consequences.lean ====
section
/-! SUPPORT. What two states agree on when they are equal up to what the blocks change freely, the places of the relays,
and the decision of a target. -/

namespace Sys2Proof.Machine

/-! ## Equal up to what the blocks change freely -/

theorem held_pending {s t : State} (h : s.held = t.held) : s.pending = t.pending := by
  have := congrArg State.pending h; exact this
theorem held_powered {s t : State} (h : s.held = t.held) : s.powered = t.powered := by
  have := congrArg State.powered h; exact this
theorem held_ms {s t : State} (h : s.held = t.held) : s.ms = t.ms := by
  have := congrArg State.ms h; exact this
theorem held_tickCount {s t : State} (h : s.held = t.held) : s.tickCount = t.tickCount := by
  have := congrArg State.tickCount h; exact this
theorem held_evalCount {s t : State} (h : s.held = t.held) : s.evalCount = t.evalCount := by
  have := congrArg State.evalCount h; exact this
theorem held_hourCount {s t : State} (h : s.held = t.held) : s.hourCount = t.hourCount := by
  have := congrArg State.hourCount h; exact this
theorem held_lastRestart {s t : State} (h : s.held = t.held) : s.lastRestart = t.lastRestart := by
  have := congrArg State.lastRestart h; exact this
theorem held_settingsFrom {s t : State} (h : s.held = t.held) : s.settingsFrom = t.settingsFrom := by
  have := congrArg State.settingsFrom h; exact this
theorem held_settings {s t : State} (h : s.held = t.held) : s.settings = t.settings := by
  have := congrArg State.settings h; exact this
theorem held_loaded {s t : State} (h : s.held = t.held) : s.loaded = t.loaded := by
  have := congrArg State.loaded h; exact this
theorem held_stored {s t : State} (h : s.held = t.held) : s.stored = t.stored := by
  have := congrArg State.stored h; exact this
theorem held_record {s t : State} (h : s.held = t.held) : s.record = t.record := by
  have := congrArg State.record h; exact this
theorem held_storePending {s t : State} (h : s.held = t.held) : s.storePending = t.storePending := by
  have := congrArg State.storePending h; exact this
theorem held_meas {s t : State} (h : s.held = t.held) : s.meas = t.meas := by
  have := congrArg State.meas h; exact this
theorem held_inputs {s t : State} (h : s.held = t.held) : s.inputs = t.inputs := by
  have := congrArg State.inputs h; exact this
theorem held_relays {s t : State} (h : s.held = t.held) : s.relays = t.relays := by
  have := congrArg State.relays h; exact this
theorem held_strings {s t : State} (h : s.held = t.held) : s.strings = t.strings := by
  have := congrArg State.strings h; exact this
theorem held_clock {s t : State} (h : s.held = t.held) : s.clock = t.clock := by
  have := congrArg State.clock h; exact this
theorem held_targets {s t : State} (h : s.held = t.held) : s.targets = t.targets := by
  have := congrArg State.targets h; exact this
theorem held_points {s t : State} (h : s.held = t.held) : s.points = t.points := by
  have := congrArg State.points h; exact this
theorem held_relaysFormed {s t : State} (h : s.held = t.held) : s.relaysFormed = t.relaysFormed := by
  have := congrArg State.relaysFormed h; exact this
theorem held_log {s t : State} (h : s.held = t.held) : s.log = t.log := by
  have := congrArg State.log h; exact this
theorem held_mode {s t : State} (h : s.held = t.held) : s.mode = t.mode := by
  have := congrArg State.mode h; exact this
theorem held_link {s t : State} (h : s.held = t.held) : s.link = t.link := by
  have := congrArg State.link h; exact this
theorem held_setpoint {s t : State} (h : s.held = t.held) : s.charge.setpoint = t.charge.setpoint := by
  have := congrArg (fun x : State => x.charge.setpoint) h; exact this
theorem held_changeover {s t : State} (h : s.held = t.held) : s.mains.changeover = t.mains.changeover := by
  have := congrArg (fun x : State => x.mains.changeover) h; exact this
theorem held_genState {s t : State} (h : s.held = t.held) : s.gen.state = t.gen.state := by
  have := congrArg (fun x : State => x.gen.state) h; exact this
theorem held_testSlot {s t : State} (h : s.held = t.held) : s.slots.get sTest = t.slots.get sTest := by
  have := congrArg (fun x : State => x.slots.get sTest) h
  simpa [State.held] using this

theorem tracked_powered {s t : State} (h : s.tracked = t.tracked) : s.powered = t.powered := by
  have := congrArg State.powered h; exact this
theorem tracked_settings {s t : State} (h : s.tracked = t.tracked) : s.settings = t.settings := by
  have := congrArg State.settings h; exact this
theorem tracked_stored {s t : State} (h : s.tracked = t.tracked) : s.stored = t.stored := by
  have := congrArg State.stored h; exact this
theorem tracked_relays {s t : State} (h : s.tracked = t.tracked) : s.relays = t.relays := by
  have := congrArg State.relays h; exact this
theorem tracked_relaysFormed {s t : State} (h : s.tracked = t.tracked) : s.relaysFormed = t.relaysFormed := by
  have := congrArg State.relaysFormed h; exact this
theorem tracked_strings {s t : State} (h : s.tracked = t.tracked) : s.strings = t.strings := by
  have := congrArg State.strings h; exact this
theorem tracked_targets {s t : State} (h : s.tracked = t.tracked) : s.targets = t.targets := by
  have := congrArg State.targets h; exact this
theorem tracked_points {s t : State} (h : s.tracked = t.tracked) : s.points = t.points := by
  have := congrArg State.points h; exact this
theorem tracked_log {s t : State} (h : s.tracked = t.tracked) : s.log = t.log := by
  have := congrArg State.log h; exact this
theorem tracked_setpoint {s t : State} (h : s.tracked = t.tracked) : s.charge.setpoint = t.charge.setpoint := by
  have := congrArg (fun x : State => x.charge.setpoint) h; exact this
theorem tracked_changeover {s t : State} (h : s.tracked = t.tracked) : s.mains.changeover = t.mains.changeover := by
  have := congrArg (fun x : State => x.mains.changeover) h; exact this
theorem tracked_genState {s t : State} (h : s.tracked = t.tracked) : s.gen.state = t.gen.state := by
  have := congrArg (fun x : State => x.gen.state) h; exact this

/-! ## What a command's consequences leave as it is -/

/-- What no consequence of a command changes: the queue, power, time, the counts, the settings and stored images, the
measurements, the inputs, the clock, the mode and the link. -/
def State.still (s : State) : State :=
  { s with
    fresh := 0, relays := Table.fill 14 ⟨false, 0⟩, strings := Table.fill 4 StringRec.start, charge := RegimeRec.start
    shelf := Shelf.start, mains := Mains.start, gen := Generator.start, sched := Scheduler.start
    targets := Table.fill 5 Target.start, lvd := .normal, slots := Table.fill 4 none, test := TestRec.start
    points := Table.fill 41 Point.start, log := [] }

theorem setRelay_still (r : Fin 14) (on : Bool) (w : Work) : (setRelay r on w).still = w.still := by
  unfold setRelay; split <;> rfl

theorem formSeverityRelays_still (w : Work) : (formSeverityRelays w).still = w.still := by
  unfold formSeverityRelays; split <;> simp [setRelay_still]

theorem movePoint_still (p : Fin 41) (st : PointState) (w : Work) : (movePoint p st w).still = w.still := by
  unfold movePoint
  simp only [raise_toState]
  rw [formSeverityRelays_still]
  rfl

/-- Whatever stands still does so through every consequence of a command. -/
theorem still_kept (s : State) : Kept (fun w => w.still = s) where
  free h hw := by
    rw [← hw]
    have := congrArg State.still h
    exact this
  log k n o d hw := hw
  gen g hw := by rw [← hw]; unfold genCore; simp only [setRelay_still]; rfl
  phase g _ _ hw := hw
  changeover m hw := by rw [← hw]; unfold changeoverCore; simp only [setRelay_still]; rfl
  target t r _ _ _ hw := by
    rw [← hw]; unfold targetCore; dsimp only
    split
    · rfl
    · simp only [setRelay_still]; rfl
  check t c x hw := hw
  point p x _ _ _ hw := hw
  slot k r _ hw := hw
  move p st _ hw := by rw [← hw]; exact movePoint_still p st _
  string n r _ hw := hw
  setpoint hw := hw

/-- Settling leaves what stands still as it is. -/
theorem settleAll_still (w : Work) : (settleAll w).still = w.still := (still_kept w.still).settleAll rfl

@[simp] theorem settleAll_pending (w : Work) : (settleAll w).pending = w.pending := by
  have := congrArg State.pending (settleAll_still w); exact this
@[simp] theorem settleAll_powered (w : Work) : (settleAll w).powered = w.powered := by
  have := congrArg State.powered (settleAll_still w); exact this
@[simp] theorem settleAll_ms (w : Work) : (settleAll w).ms = w.ms := by
  have := congrArg State.ms (settleAll_still w); exact this
@[simp] theorem settleAll_tickCount (w : Work) : (settleAll w).tickCount = w.tickCount := by
  have := congrArg State.tickCount (settleAll_still w); exact this
@[simp] theorem settleAll_evalCount (w : Work) : (settleAll w).evalCount = w.evalCount := by
  have := congrArg State.evalCount (settleAll_still w); exact this
@[simp] theorem settleAll_hourCount (w : Work) : (settleAll w).hourCount = w.hourCount := by
  have := congrArg State.hourCount (settleAll_still w); exact this
@[simp] theorem settleAll_lastRestart (w : Work) : (settleAll w).lastRestart = w.lastRestart := by
  have := congrArg State.lastRestart (settleAll_still w); exact this
@[simp] theorem settleAll_settingsFrom (w : Work) : (settleAll w).settingsFrom = w.settingsFrom := by
  have := congrArg State.settingsFrom (settleAll_still w); exact this
@[simp] theorem settleAll_settings (w : Work) : (settleAll w).settings = w.settings := by
  have := congrArg State.settings (settleAll_still w); exact this
@[simp] theorem settleAll_loaded (w : Work) : (settleAll w).loaded = w.loaded := by
  have := congrArg State.loaded (settleAll_still w); exact this
@[simp] theorem settleAll_stored (w : Work) : (settleAll w).stored = w.stored := by
  have := congrArg State.stored (settleAll_still w); exact this
@[simp] theorem settleAll_record (w : Work) : (settleAll w).record = w.record := by
  have := congrArg State.record (settleAll_still w); exact this
@[simp] theorem settleAll_storePending (w : Work) : (settleAll w).storePending = w.storePending := by
  have := congrArg State.storePending (settleAll_still w); exact this
@[simp] theorem settleAll_meas (w : Work) : (settleAll w).meas = w.meas := by
  have := congrArg State.meas (settleAll_still w); exact this
@[simp] theorem settleAll_inputs (w : Work) : (settleAll w).inputs = w.inputs := by
  have := congrArg State.inputs (settleAll_still w); exact this
@[simp] theorem settleAll_clock (w : Work) : (settleAll w).clock = w.clock := by
  have := congrArg State.clock (settleAll_still w); exact this
@[simp] theorem settleAll_relaysFormed (w : Work) : (settleAll w).relaysFormed = w.relaysFormed := by
  have := congrArg State.relaysFormed (settleAll_still w); exact this
@[simp] theorem settleAll_mode (w : Work) : (settleAll w).mode = w.mode := by
  have := congrArg State.mode (settleAll_still w); exact this
@[simp] theorem settleAll_link (w : Work) : (settleAll w).link = w.link := by
  have := congrArg State.link (settleAll_still w); exact this

/-- A command that raises nothing has no consequence. -/
theorem settleAll_calm {w : Work} (h : w.agenda = []) : settleAll w = w := by
  have hf : settleFuel = 999 + 1 := rfl
  unfold settleAll
  rw [hf]
  unfold settle
  rw [h]

/-! ## The relays (R24) -/

theorem rTarget_ne (t : Fin 5) : rTarget t ≠ rFuelRun ∧ rTarget t ≠ rCrank ∧ rTarget t ≠ rMainsBreak ∧
    rTarget t ≠ rGenMake ∧ rTarget t ≠ rAlmCrit ∧ rTarget t ≠ rAlmMaj ∧ rTarget t ≠ rAlmMin ∧ rTarget t ≠ rAux1 ∧
    rTarget t ≠ rAux2 := by
  revert t; decide

theorem rTarget_inj (t u : Fin 5) : rTarget t = rTarget u ↔ t = u := by revert t u; decide

theorem relayOn_congr {s t : State} (h : s.relays = t.relays) (r : Fin 14) : s.relayOn r = t.relayOn r := by
  unfold State.relayOn; rw [h]

/-- R154: only the three severity relays are formed from the points. -/
theorem formSeverityRelays_relayOn (w : Work) (r : Fin 14) (h1 : r ≠ rAlmCrit) (h2 : r ≠ rAlmMaj) (h3 : r ≠ rAlmMin) :
    (formSeverityRelays w).relayOn r = w.relayOn r := by
  unfold formSeverityRelays
  split
  · simp [setRelay_relayOn, h1, h2, h3]
  · rfl

theorem movePoint_relayOn (p : Fin 41) (st : PointState) (w : Work) (r : Fin 14) (h1 : r ≠ rAlmCrit)
    (h2 : r ≠ rAlmMaj) (h3 : r ≠ rAlmMin) : (movePoint p st w).relayOn r = w.relayOn r := by
  unfold movePoint
  simp only [raise_toState]
  rw [formSeverityRelays_relayOn _ _ h1 h2 h3]
  rfl

/-! ## The decision of a target (R120) -/

/-- R120: a decided target stands as its claims have it, and has the drive of their decision. -/
theorem decidedTarget_decision (s : State) (r : Target) :
    (decidedTarget s r).decision = ((decidedTarget s r).decider, (decidedTarget s r).drive) ∧
    (decidedTarget s r).drive = r.decision.2 := by
  rcases r with ⟨th, l, ha, ho, se, dr, de, ch, ti⟩
  rcases ho with _ | d
  · cases th <;> cases l <;> cases ha <;> cases se <;> cases dr <;> exact ⟨rfl, rfl⟩
  · cases th <;> cases l <;> cases ha <;> cases d <;> cases dr <;> exact ⟨rfl, rfl⟩

/-! ## The write of a setting (R173) -/

variable {P : Work → Prop}

theorem ite_kept {c : Prop} [Decidable c] {v w : Work} (hv : P v) (hw : P w) : P (if c then v else w) := by
  split
  · exact hv
  · exact hw

/-- R173 step 7: what the owner of a written setting keeps, for a property that its own acts on points keep. -/
theorem KeptByOwners.ownerActs (hP : KeptByOwners P) (hsev : ∀ p w, P w → P (severityWritten p w))
    (hmask : ∀ p w, P w → P (maskWritten p w)) (hesc : ∀ w, P w → P (escalationWritten w))
    (id : Nat) (old : State) {w : Work} (h : P w) : P (ownerActs id old w) := by
  have henable : ∀ st, P (enablementWritten st w) := by
    intro st
    unfold enablementWritten
    exact hP.raise _ (hP.gridWork _ (hP.handWatchPoints (hP.formSensorFault _ (hP.meas _ h))))
  have henrol : ∀ n, P (enrolmentWritten n old w) := by
    intro n
    unfold enrolmentWritten
    refine Kept.onlyIf _ _ (hP.withdrawThermal n) (hP.formService _ (hP.noteService _ ?_))
    have he := henable old.settings
    generalize enablementWritten old.settings w = v at he ⊢
    split
    · unfold enrolString
      exact hP.string n (enrolledRecord _ n _ _) (fun _ => enrolledRecord_sound _ _ _ _) he
    · exact hP.string n { v.strings.get n with phase := .isolated, full := false, tail := 0, lastI := none }
        (fun hs => hs) he
  unfold Machine.ownerActs
  apply ite_kept (P := P) (henrol 0)
  apply ite_kept (P := P) (henrol 1)
  apply ite_kept (P := P) (henrol 2)
  apply ite_kept (P := P) (henrol 3)
  apply ite_kept (P := P) (hP.setpoint h)
  apply ite_kept (P := P) (hP.absorbMaxWritten h)
  apply ite_kept (P := P) (hP.retryWritten h)
  apply ite_kept (P := P) (hP.fuelFilled h)
  split
  · split
    · exact hsev _ _ h
    · exact h
  rename_i nhs; clear nhs
  split
  · split
    · exact hmask _ _ h
    · exact h
  rename_i nhm; clear nhm
  apply ite_kept (P := P) (hesc _ h)
  apply ite_kept (P := P) (hP.startSupervision h)
  apply ite_kept (P := P) (hP.setRemaining _ h)
  split
  · split
    · exact hP.formActive _ h
    · exact h
  rename_i nhi; clear nhi
  apply ite_kept (P := P) (henable _)
  exact h

end Sys2Proof.Machine
end

