-- ==== Sys2Proof/Laws/Log.lean ====
section
/-! SUPPORT. The event log (R155): what one more entry does to its order and its size. -/

namespace Sys2Proof.Machine

theorem logOrdered_tail {e : LogEntry} {l : List LogEntry} (h : logOrdered (e :: l) = true) : logOrdered l = true := by
  unfold logOrdered at h
  exact (Bool.and_eq_true _ _ ▸ h).2

theorem logOrdered_drop {l : List LogEntry} (k : Nat) (h : logOrdered l = true) : logOrdered (l.drop k) = true := by
  induction k generalizing l with
  | zero => simpa using h
  | succ n ih =>
    cases l with
    | nil => simpa using h
    | cons e rest => simpa using ih (logOrdered_tail h)

theorem newestSeq_cons {e : LogEntry} {l : List LogEntry} (h : l ≠ []) : newestSeq (e :: l) = newestSeq l := by
  cases l with
  | nil => exact absurd rfl h
  | cons a rest => simp [newestSeq, List.getLast?_cons_cons]

/-- An entry whose sequence is one above the newest keeps the order. -/
theorem logOrdered_append {l : List LogEntry} {e : LogEntry} (h : logOrdered l = true)
    (he : l ≠ [] → e.seq = newestSeq l + 1) : logOrdered (l ++ [e]) = true := by
  induction l with
  | nil => simp [logOrdered]
  | cons a rest ih =>
    have ht := logOrdered_tail h
    cases rest with
    | nil =>
      have := he (by simp)
      simp [logOrdered, newestSeq] at *
      exact this
    | cons b rest =>
      have h1 := ih ht (fun _ => by rw [he (by simp), newestSeq_cons (by simp)])
      unfold logOrdered at h
      simp only [Bool.and_eq_true] at h
      rw [List.cons_append]
      unfold logOrdered
      simp only [List.cons_append, Bool.and_eq_true] at h1 ⊢
      exact ⟨h.1, h1⟩

theorem newestSeq_drop {l : List LogEntry} {k : Nat} (h : l.drop k ≠ []) : newestSeq (l.drop k) = newestSeq l := by
  induction k generalizing l with
  | zero => simp
  | succ n ih =>
    cases l with
    | nil => simp
    | cons a rest =>
      simp only [List.drop_succ_cons] at h ⊢
      rw [ih h, newestSeq_cons]
      rintro rfl
      simp at h

theorem newestSeq_append (l : List LogEntry) (e : LogEntry) : newestSeq (l ++ [e]) = e.seq := by
  simp [newestSeq]

/-- R155: one more entry keeps the log's form: in sequence, and at most 512 entries. -/
theorem logAppend_form (log : List LogEntry) (stamp : Nat) (k : LogKind) (n : Nat) (o : Origin) (d : Option Int)
    (h : logOrdered log = true) (hl : log.length ≤ Config.logSize) :
    logOrdered (logAppend log stamp k n o d) = true ∧ (logAppend log stamp k n o d).length ≤ Config.logSize := by
  unfold logAppend
  split
  · simp [logOrdered, Config.logSize]
  · refine ⟨logOrdered_append (logOrdered_drop _ h) (fun hne => by rw [newestSeq_drop hne]), ?_⟩
    simp only [List.length_append, List.length_drop, List.length_singleton, Config.logSize] at *
    omega

/-- R155: the entry that is written is the newest, with the next sequence or, after the last sequence, 1. -/
theorem logAppend_newest (log : List LogEntry) (stamp : Nat) (k : LogKind) (n : Nat) (o : Origin) (d : Option Int) :
    (logAppend log stamp k n o d).getLast? =
      some ⟨if newestSeq log = Config.lastSequence then 1 else newestSeq log + 1, stamp, k, n, o, d⟩ := by
  unfold logAppend
  split <;> simp

end Sys2Proof.Machine
end

