-- ==== Sys2Proof/Laws/Requests.lean ====
section
/-! SUPPORT. How a frame becomes a reply: what its arrival leaves, which request its kind names, and what the completion of
a good frame answers. -/

namespace Sys2Proof.Machine

/-! ## The arrival (R160, R162) -/

/-- The points whose state another block reads: the three GEN_FAIL points (R104) and STRING_THERMAL (R123). -/
def pointRead (p : Fin 41) : Bool :=
  decide (22 ≤ p.val ∧ p.val ≤ 24) || decide (13 ≤ p.val ∧ p.val ≤ 16)

/-- A move of a point that no block reads has no consequence. -/
theorem pointActs_unread {p : Fin 41} (h : pointRead p = false) (w : Work) : pointActs p w = w := by
  unfold pointActs
  have h1 : ¬ (p = pGenFailStart ∨ p = pGenFailRun ∨ p = pGenFailStop) := by
    revert h; revert p; decide
  have h2 : ((indices 4).find? fun n => p == pStringThermal n) = none := by
    revert h; revert p; decide
  rw [if_neg h1, h2]

/-- Events that no block acts on. -/
def idleEvent : Event → Bool
  | .pointMoved p => !pointRead p
  | _ => false

/-- The settling of events that no block acts on only takes them away. -/
theorem settle_idle (fuel : Nat) (w : Work) (h : ∀ e ∈ w.agenda, idleEvent e = true) (hl : w.agenda.length < fuel) :
    settle fuel w = { w with agenda := [] } := by
  induction fuel generalizing w with
  | zero => omega
  | succ n ih =>
    unfold settle
    split
    · next he => cases w; simp_all
    · next e rest he =>
      have h1 : idleEvent e = true := h e (by rw [he]; simp)
      have h2 : handle e { w with agenda := [] } = { w with agenda := [] } := by
        cases e with
        | pointMoved p =>
          show pointActs p _ = _
          exact pointActs_unread (by simpa [idleEvent] using h1) _
        | _ => simp [idleEvent] at h1
      rw [h2]
      simp only [List.nil_append]
      rw [he] at hl
      simp only [List.length_cons] at hl
      exact ih { w with agenda := rest } (fun x hx => h x (by rw [he]; simp [hx])) (by simpa using by omega)

theorem settleAll_idle (w : Work) (h : ∀ e ∈ w.agenda, idleEvent e = true) (hl : w.agenda.length < 1000) :
    settleAll w = { w with agenda := [] } := settle_idle _ w h hl

/-- What a point's rise or fall raises: at most its own move. -/
theorem conditionRose_agenda (p : Fin 41) (o : Origin) (d : Option Int) (w : Work) :
    (conditionRose p o d w).agenda = w.agenda ∨ (conditionRose p o d w).agenda = w.agenda ++ [.pointMoved p] := by
  unfold conditionRose
  dsimp only
  split
  · exact .inl rfl
  · split
    · right; simp [activate]
    · right; simp [activate]
    · exact .inl rfl
    · exact .inl rfl

theorem conditionFell_agenda (p : Fin 41) (d : Option Int) (w : Work) :
    (conditionFell p d w).agenda = w.agenda ∨ (conditionFell p d w).agenda = w.agenda ++ [.pointMoved p] := by
  unfold conditionFell
  split
  · exact .inl rfl
  · split
    · split <;> (right; simp)
    · right; simp
    · exact .inl rfl
    · exact .inl rfl

theorem handCondition_agenda (p : Fin 41) (raw : Bool) (d : Int) (w : Work) :
    (handCondition p raw d w).agenda = w.agenda ∨ (handCondition p raw d w).agenda = w.agenda ++ [.pointMoved p] := by
  unfold handCondition
  dsimp only
  split
  · exact .inl rfl
  · split
    · exact .inl rfl
    · split
      · exact conditionRose_agenda p .part (some d) _
      · exact conditionFell_agenda p (some d) _

theorem frameArrival_agenda (w : Work) :
    (frameArrival w).agenda = w.agenda ∨ (frameArrival w).agenda = w.agenda ++ [.pointMoved pHostSilent] := by
  unfold frameArrival startSupervision
  split
  · exact handCondition_agenda pHostSilent false 0 (changeMode .attended .host w)
  · exact .inl rfl

/-- The arrival of a frame has no consequence beyond itself. -/
theorem heard_settled (s : State) : settleAll (frameArrival (countFrame ⟨s, []⟩)) = ⟨s.heard, []⟩ := by
  rw [settleAll_idle]
  · rfl
  · intro e he
    rcases frameArrival_agenda (countFrame ⟨s, []⟩) with h | h <;> rw [h] at he
    · exact absurd he List.not_mem_nil
    · have : e = .pointMoved pHostSilent := by simpa [countFrame] using he
      subst this
      rfl
  · rcases frameArrival_agenda (countFrame ⟨s, []⟩) with h | h <;> rw [h] <;> simp [countFrame]

/-! ## The completion (R167, R168) -/

/-- The rule of a command that a frame of a known kind is: the completion of that frame. -/
theorem exec_command (f : Frame) (s : State) : exec f.command s = run (goodFrame f) s := by
  obtain ⟨k, t, p⟩ := f
  have key : ∀ n : Nat, k.toNat = n → k = BitVec.ofNat 8 n := by
    intro n hn
    apply BitVec.eq_of_toNat_eq
    rw [BitVec.toNat_ofNat, ← hn]
    exact (Nat.mod_eq_of_lt k.isLt).symm
  unfold Frame.command requestOf
  dsimp only
  split
  all_goals first
    | (next h => rw [key _ h]; rfl)
    | rfl

/-- R167, R168: a good frame of a known kind that is taken at once: the request of its kind acts on the state the arrival
leaves, what it raised is settled, and its answer is in flight. -/
theorem exec_known (f : Frame) (s : State) (hr : s.ready = true) (hk : kindKnown f.kind = true) :
    exec f.command s = .next
      (settleAll { (request f.kind f.payload ⟨s.heard, []⟩).1 with
        link := { (request f.kind f.payload ⟨s.heard, []⟩).1.link with
          reply := some ((request f.kind f.payload ⟨s.heard, []⟩).2.reply f.kind f.tag) } }).toState := by
  simp only [State.ready, Bool.and_eq_true, Option.isNone_iff_eq_none, bne_iff_ne, ne_eq] at hr
  rw [exec_command]
  unfold run
  rw [if_pos hr.1.1]
  congr 2
  have h1 : (countFrame ⟨s, []⟩).link.reply = none := hr.1.2
  have h2 : ((countFrame ⟨s, []⟩).link.restart == .due) = false := by simpa [countFrame] using hr.2
  unfold goodFrame
  dsimp only
  rw [h1, h2]
  simp only [Bool.false_eq_true, if_false]
  unfold takeFrame carryOut
  rw [if_pos hk, heard_settled]

/-- A request that raises nothing: its answer is in flight and nothing else follows. -/
theorem exec_known_calm (f : Frame) (s : State) (hr : s.ready = true) (hk : kindKnown f.kind = true) (t : State)
    (a : Answer) (h : request f.kind f.payload ⟨s.heard, []⟩ = (⟨t, []⟩, a)) :
    exec f.command s = .next (t.answered f.kind f.tag a) := by
  rw [exec_known f s hr hk, h, settleAll_calm rfl]
  rfl

end Sys2Proof.Machine
end

