-- ==== Sys2Proof/Laws/Settings.lean ====
section
/-! SUPPORT. The settings: what a read gives after a write, and the one form in which they are held (R173, R175). -/

namespace Sys2Proof.Machine

theorem settingsWf_tail {k v : Nat} {st : Settings} (h : settingsWf ((k, v) :: st) = true) : settingsWf st = true := by
  unfold settingsWf at h
  simp only [Bool.and_eq_true] at h
  exact h.2

theorem settingsWf_head {k v : Nat} {st : Settings} (h : settingsWf ((k, v) :: st) = true) : v ≠ settingDefault k := by
  unfold settingsWf at h
  simp only [Bool.and_eq_true, bne_iff_ne] at h
  exact h.1.1

theorem settingsWf_next {k v k' v' : Nat} {st : Settings} (h : settingsWf ((k, v) :: (k', v') :: st) = true) : k < k' := by
  unfold settingsWf at h
  simp only [Bool.and_eq_true, decide_eq_true_eq] at h
  exact h.1.2

/-- The ids listed after the first are above it. -/
theorem settingsWf_above {k v : Nat} {st : Settings} (h : settingsWf ((k, v) :: st) = true) :
    ∀ e ∈ st, k < e.1 := by
  induction st generalizing k v with
  | nil => simp
  | cons a rest ih =>
    obtain ⟨k', v'⟩ := a
    have hlt := settingsWf_next h
    intro e he
    rcases List.mem_cons.mp he with rfl | he
    · exact hlt
    · exact Nat.lt_trans hlt (ih (settingsWf_tail h) e he)

/-- An id below every listed one has its default. -/
theorem getSetting_below {st : Settings} {id : Nat} (h : ∀ e ∈ st, id < e.1) : getSetting st id = settingDefault id := by
  induction st with
  | nil => rfl
  | cons a rest ih =>
    obtain ⟨k, v⟩ := a
    have hk : id < k := h (k, v) (by simp)
    unfold getSetting
    rw [if_neg (by omega)]
    exact ih (fun e he => h e (by simp [he]))

/-- A write leaves every other setting as it was. -/
theorem getSetting_put_ne (st : Settings) (id v j : Nat) (h : j ≠ id) :
    getSetting (putSetting st id v) j = getSetting st j := by
  induction st with
  | nil =>
    unfold putSetting
    split
    · rfl
    · simp [getSetting, Ne.symm h]
  | cons a rest ih =>
    obtain ⟨k, x⟩ := a
    unfold putSetting
    split
    · split
      · rfl
      · simp [getSetting, Ne.symm h]
    · split
      · next hk =>
        subst hk
        split
        · simp [getSetting, Ne.symm h]
        · simp [getSetting, Ne.symm h]
      · simp [getSetting, ih]

/-- A setting written reads as written. -/
theorem getSetting_put_same (st : Settings) (id v : Nat) (h : settingsWf st = true) :
    getSetting (putSetting st id v) id = v := by
  induction st with
  | nil =>
    unfold putSetting
    split
    · next hv => exact hv.symm
    · simp [getSetting]
  | cons a rest ih =>
    obtain ⟨k, x⟩ := a
    unfold putSetting
    split
    · next hlt =>
      split
      · next hv =>
        rw [getSetting_below, hv]
        intro e he
        rcases List.mem_cons.mp he with rfl | he
        · exact hlt
        · exact Nat.lt_trans hlt (settingsWf_above h e he)
      · simp [getSetting]
    · split
      · next hk =>
        subst hk
        split
        · next hv =>
          rw [getSetting_below (settingsWf_above h), hv]
        · simp [getSetting]
      · next hk =>
        simp only [getSetting]
        rw [if_neg (fun e => hk e.symm)]
        exact ih (settingsWf_tail h)

theorem putSetting_above {st : Settings} {k id v : Nat} (hk : k < id) (h : ∀ e ∈ st, k < e.1) :
    ∀ e ∈ putSetting st id v, k < e.1 := by
  induction st with
  | nil =>
    unfold putSetting
    split
    · simp
    · simpa using hk
  | cons a rest ih =>
    obtain ⟨k', x⟩ := a
    have h1 : k < k' := h (k', x) (by simp)
    have h2 : ∀ e ∈ rest, k < e.1 := fun e he => h e (by simp [he])
    unfold putSetting
    split
    · split
      · exact h
      · intro e he
        rcases List.mem_cons.mp he with rfl | he
        · exact hk
        · exact h e he
    · split
      · split
        · exact h2
        · intro e he
          rcases List.mem_cons.mp he with rfl | he
          · exact hk
          · exact h2 e he
      · intro e he
        rcases List.mem_cons.mp he with rfl | he
        · exact h1
        · exact ih h2 e he

theorem settingsWf_cons {k v : Nat} {st : Settings} (hv : v ≠ settingDefault k) (ha : ∀ e ∈ st, k < e.1)
    (h : settingsWf st = true) : settingsWf ((k, v) :: st) = true := by
  unfold settingsWf
  simp only [Bool.and_eq_true, bne_iff_ne]
  refine ⟨⟨hv, ?_⟩, h⟩
  cases st with
  | nil => rfl
  | cons a rest =>
    obtain ⟨k', v'⟩ := a
    simpa using ha (k', v') (by simp)

/-- A write keeps the form of the settings: ids strictly rising, no default listed. -/
theorem putSetting_wf (st : Settings) (id v : Nat) (h : settingsWf st = true) : settingsWf (putSetting st id v) = true := by
  induction st with
  | nil =>
    unfold putSetting
    split
    · rfl
    · next hv => exact settingsWf_cons hv (by simp) rfl
  | cons a rest ih =>
    obtain ⟨k, x⟩ := a
    have ht := settingsWf_tail h
    have ha := settingsWf_above h
    unfold putSetting
    split
    · next hlt =>
      split
      · exact h
      · next hv =>
        refine settingsWf_cons hv ?_ h
        intro e he
        rcases List.mem_cons.mp he with rfl | he
        · exact hlt
        · exact Nat.lt_trans hlt (ha e he)
    · split
      · next hk =>
        subst hk
        split
        · exact ht
        · next hv => exact settingsWf_cons hv ha ht
      · next h1 h2 =>
        exact settingsWf_cons (settingsWf_head h) (putSetting_above (by omega) ha) (ih ht)

/-- R168: a value taken at the nearest limit lies in the range, and outside the gap of a split range. -/
theorem clampSetting_fits (r : SettingRow) (v : Nat) (h : r.low ≤ r.high) (hg : r.gap ≤ r.high)
    (hl : r.gap = 0 ∨ r.low = 0) :
    r.low ≤ clampSetting r v ∧ clampSetting r v ≤ r.high ∧ (clampSetting r v = 0 ∨ r.gap ≤ clampSetting r v) := by
  unfold clampSetting clampNat
  split <;> omega

end Sys2Proof.Machine
end

