-- ==== Sys2Proof/Tests/Slice0.lean ====
section
/-! SUPPORT. The model's own tests: the well-formedness checks refuse what they should, each command on one small case
taken from the manual's examples or worked by hand from its rules, and for each obligation a state and operands that meet
its hypotheses. -/

namespace Sys2Proof.Tests
open Sys2Proof Sys2Proof.Machine

/-! ## Well-formedness: each check refuses an ill-formed command -/

/-- R166: 96 bytes of PAYLOAD fit a frame, 97 do not. -/
theorem test_wf_payload :
    (Instr.readPlant 0 (List.replicate 96 0)).wellFormed = true ∧
    (Instr.readPlant 0 (List.replicate 97 0)).wellFormed = false ∧
    (Instr.overrun 1 0 (List.replicate 97 0)).wellFormed = false := by decide

/-- R168: UNKNOWN_KIND carries a kind that is not in the catalogue. -/
theorem test_wf_kind :
    (Instr.unknownKind 0x0D#8 0 []).wellFormed = true ∧ (Instr.unknownKind 0x0C#8 0 []).wellFormed = false ∧
    (Instr.unknownKind 0x20#8 0 []).wellFormed = false ∧ (Instr.unknownKind 0x2F#8 0 []).wellFormed = true := by decide

/-- Raw readings, all 0. -/
def raw0 : Table Int 20 := Table.fill 20 0

/-- The blocks of a scan completion in the order of the manual's chapters. -/
def scanBlocks : List ScanBlock := [.points, .lvd, .grid, .engine, .strings, .regime, .thermal, .test]

/-- The blocks of a second tick. -/
def tickBlocks : List TickBlock := [.shelf, .engine, .fuel, .allowance, .equalize, .clock]

/-- Every block takes a scan completion, and takes it once. -/
theorem test_wf_scan :
    (Instr.scanCompletion raw0 scanBlocks).wellFormed = true ∧
    (Instr.scanCompletion raw0 (scanBlocks.drop 1)).wellFormed = false ∧
    (Instr.scanCompletion raw0 (.test :: scanBlocks.drop 1)).wellFormed = false := by decide

/-- Every block takes a second tick, and takes it once. -/
theorem test_wf_tick :
    (Instr.secondTick tickBlocks).wellFormed = true ∧ (Instr.secondTick (tickBlocks.drop 1)).wellFormed = false ∧
    (Instr.secondTick (.clock :: tickBlocks.drop 1)).wellFormed = false := by decide

/-- R69, R179: a reply's figures fit their fields; its fault code is at most 253. -/
theorem test_wf_answer :
    (Instr.moduleReply 0 ⟨.on, 65535, 65535, -32768, 253⟩).wellFormed = true ∧
    (Instr.moduleReply 0 ⟨.on, 65536, 0, 0, 0⟩).wellFormed = false ∧
    (Instr.moduleReply 0 ⟨.on, 0, 65536, 0, 0⟩).wellFormed = false ∧
    (Instr.moduleReply 0 ⟨.on, 0, 0, -32769, 0⟩).wellFormed = false ∧
    (Instr.moduleReply 0 ⟨.on, 0, 0, 32768, 0⟩).wellFormed = false ∧
    (Instr.moduleReply 0 ⟨.fault, 0, 0, 0, 254⟩).wellFormed = false := by decide

/-! ## States for the tests -/

/-- The state after reset in ATTENDED. -/
def attended : State := { State.reset with mode := { State.reset.mode with mode := .attended } }

/-- The same with the grid qualified and feeding. -/
def onGrid : State := { attended with mains := ⟨true, .grid, .mainsFeed, none⟩ }

/-- The same with every string full. -/
def fullPlant : State :=
  { onGrid with
    strings := Table.fill 4 { StringRec.start with full := true }
    charge := { RegimeRec.start with regime := .float, present := true } }

/-- An operation record begun by the host in ATTENDED. -/
def operation (st : OpState) (k : OpKind) (args : List Nat) : OpRec :=
  ⟨st, k, .host, none, .attended, 0, args, none, none, 0, none, false⟩

/-- A state with an operation in its slot. -/
def withOp (s : State) (k : Fin 4) (r : OpRec) : State := { s with slots := s.slots.set k (some r) }

/-- A state with one setting changed. -/
def withSetting (s : State) (id v : Nat) : State := { s with settings := putSetting s.settings id v }

/-- A state with one module's record. -/
def withModule (s : State) (p : Fin 12) (m : Module) : State :=
  { s with shelf := { s.shelf with modules := s.shelf.modules.set p m } }

/-- A module in a state with the run minutes given. -/
def module (st : ModuleState) (minutes : Nat) : Module := { Module.start with state := st, runMinutes := minutes }

/-- A state with the controller in a state, its state timer running. -/
def withGen (s : State) (st : GenState) : State :=
  { s with gen := { s.gen with state := st, attempt := 1, timer := some ⟨0, 5000⟩ } }

/-- A state with an input's active field. -/
def withInput (s : State) (i : Fin 16) (active : Bool) : State :=
  { s with inputs := s.inputs.modify i fun r => { r with active := active } }

/-- A state with a watch reading TRUE. -/
def withWatch (s : State) (k : Fin 16) : State :=
  { s with meas := { s.meas with watches := s.meas.watches.set k ⟨.isTrue, 0⟩ } }

/-- A state with a channel VALID at a value. -/
def withReading (s : State) (c : Fin 20) (v : Int) : State :=
  { s with meas := { s.meas with channels := s.meas.channels.set c ⟨some v, .valid, 0⟩ } }

/-- A state with a point's record changed. -/
def withPoint (s : State) (p : Fin 41) (f : Point → Point) : State := { s with points := s.points.modify p f }

/-- A state with a target's record changed. -/
def withTarget (s : State) (t : Fin 5) (f : Target → Target) : State := { s with targets := s.targets.modify t f }

/-- A state whose link has a reply in flight. -/
def replying (s : State) : State := { s with link := { s.link with reply := some (.accept 2 0 .empty) } }

/-- A state whose receiver stands as given. -/
def receiving (s : State) (r : Receiver) : State := { s with link := { s.link with receiver := r } }

/-- A state at a site second. -/
def atSecond (s : State) (n : Nat) : State := { s with ms := n * 1000 }

/-- A lockout that GEN_FAIL_START alone holds, entered at 0, with the grid qualified. -/
def startLockout : State :=
  withPoint { onGrid with gen := { Generator.start with state := .lockout, causes := ⟨true, false, false⟩ } }
    pGenFailStart fun p => { p with state := .latched }

/-- The state with the records of a scan completion. -/
def measured (s : State) (raw : Table Int 20) : State := { s with meas := scanRecords s.settings s.meas raw }

/-- A state whose grid watches read TRUE. -/
def gridOk (s : State) : State := withWatch (withWatch s wGridV) wGridF

/-- The timer of every witness. -/
def timer : Timer := ⟨0, 5000⟩

/-- The next state of a command. -/
def after (c : Instr) (s : State) : State :=
  match exec c s with
  | .next t => t
  | .fault _ => s
  | .refused _ => s

/-! ## Witnesses: a state and operands that meet the hypotheses of each obligation, clause by clause -/

theorem test_witness_StepRunsFrontCommand : State.reset.pending = [] := by decide

set_option maxRecDepth 4000 in
theorem test_witness_FrameBytesMakeTheCommand :
    State.reset.powered = true ∧ State.reset.link.receiver = .hunt ∧ State.reset.pending = [] ∧
    (List.replicate 96 (0 : Byte)).length ≤ 96 ∧ [0, 0] ≠ crcBytes (crc16 (frameBody ⟨2, 0, []⟩)) := by decide

theorem test_witness_ReceiverTakesBytes :
    State.reset.powered = true ∧ State.reset.link.receiver = .hunt ∧
    (receiving State.reset .length).link.receiver = .length ∧
    (receiving State.reset (.body 1 [2])).link.receiver = .body 1 [2] ∧
    (receiving State.reset (.body 2 [2])).link.receiver = .body 2 [2] ∧
    (receiving State.reset (.check [2, 1, 0] none)).link.receiver = .check [2, 1, 0] none ∧
    (receiving State.reset (.check [2, 1, 0] (some 0))).link.receiver = .check [2, 1, 0] (some 0) := by decide

theorem test_witness_FramesAndEndOfReply :
    ((replying State.reset).powered = true ∧ (replying State.reset).link.reply.isSome = true ∧
      Frame.command ⟨2, 0, []⟩ = .readPlant 0 []) ∧
    State.reset.powered = true ∧ State.reset.link.reply = none ∧
    (let s : State := { State.reset with
       link := { State.reset.link with reply := some (.accept 0x2E#8 0 .empty), restart := .accepting } }
     s.link.reply.isSome = true ∧ s.link.restart = .accepting) ∧
    (replying State.reset).link.reply.isSome = true ∧ (replying State.reset).link.restart ≠ .accepting ∧
    (replying State.reset).link.held = none ∧
    (let s : State := { replying State.reset with
       link := { (replying State.reset).link with
         held := some ⟨2, 0, []⟩, status := ⟨false, false, false, false, 65535⟩ } }
     s.link.reply.isSome = true ∧ s.link.restart = .none ∧ s.link.held = some ⟨2, 0, []⟩ ∧ s.link.receiver = .hunt ∧
     s.link.status.good < 65536) := by decide

theorem test_witness_FrameArrives :
    State.reset.ready = true ∧ attended.ready = true ∧ kindKnown 1 = true ∧ kindKnown 0x0C#8 = true ∧
    kindKnown 0x20#8 = true ∧ kindKnown 0x2E#8 = true ∧ attended.mode.mode = .attended ∧
    State.reset.mode.mode = .hold := by decide

theorem test_witness_SupervisionExpires :
    State.reset.powered = true ∧ State.reset.mode.timer = some ⟨0, 600000⟩ ∧ State.reset.mode.mode = .hold ∧
    attended.powered = true ∧ attended.mode.timer = some ⟨0, 600000⟩ ∧ attended.mode.mode = .attended := by decide

theorem test_witness_InputsReadAndCleared : State.reset.ready = true ∧ ([0] : List Byte) ≠ [] := by decide

theorem test_witness_RecordsRead :
    State.reset.ready = true ∧ settingRow 0x0100 = some ⟨0, 1, 1, 0⟩ ∧ settingRow 0x0914 = some ⟨300, 600, 450, 0⟩ := by
  decide

theorem test_witness_LogRead :
    State.reset.ready = true ∧ State.reset.heard.logOk = true ∧ State.reset.heard.log ≠ [] ∧
    oldestSeq State.reset.heard.log = 1 ∧ newestSeq State.reset.heard.log = 6 ∧ 7 = newestSeq State.reset.heard.log + 1 ∧
    0 < oldestSeq State.reset.heard.log ∧ newestSeq State.reset.heard.log + 1 < 8 ∧ 4294967295 < 4294967296 := by decide

theorem test_witness_UnfitRequestsRefused :
    State.reset.ready = true ∧ kindKnown 0 = false ∧ kindKnown 0x0D#8 = false ∧ kindKnown 0x1F#8 = false ∧
    kindKnown 0x2F#8 = false ∧
    State.reset.ready = true ∧ kindKnown 0x25#8 = true ∧ lengthFits 0x25#8 [0] = false ∧ kindKnown 2 = true ∧
    lengthFits 2 [0] = false ∧ kindKnown 0x28#8 = true ∧ lengthFits 0x28#8 [0, 0, 0, 0, 0] = false ∧
    State.reset.ready = true ∧ lengthFits 3 [5] = true ∧ subjectFits 3 [5] = false ∧ subjectFits 3 [0] = false ∧
    lengthFits 0x23#8 [0x40#8, 0] = true ∧ subjectFits 0x23#8 [0x40#8, 0] = false ∧
    lengthFits 0x27#8 [2, 0, 0, 0, 0, 0] = true ∧ subjectFits 0x27#8 [2, 0, 0, 0, 0, 0] = false ∧
    subjectFits 4 [13] = false ∧ subjectFits 0x2A#8 [6, 0] = false := by decide

theorem test_witness_SettingWritten :
    State.reset.ready = true ∧ State.reset.storePending = false ∧ settingsWf State.reset.settings = true ∧
    settingRow 0x0307 = some ⟨0, 2160, 168, 24⟩ ∧
    (∀ v ∈ [0, 1, 23, 24, 2160, 2161, 65535],
      relationHolds 0x0307 (putSetting State.reset.settings 0x0307 (clampSetting ⟨0, 2160, 168, 24⟩ v)) = true) ∧
    ownedSetting 0x0307 = false ∧ settingRow 0x0200 = some ⟨5000, 5600, 5400, 0⟩ ∧
    relationHolds 0x0200 (putSetting State.reset.settings 0x0200 5160) = true ∧
    State.reset.ready = true ∧ ({ State.reset with storePending := true } : State).ready = true ∧
    settingRow 0x0309 = some ⟨0, 4095, 4095, 0⟩ ∧ settingRow 0x0200 = some ⟨5000, 5600, 5400, 0⟩ ∧
    relationHolds 0x0200 (putSetting State.reset.settings 0x0200 (clampSetting ⟨5000, 5600, 5400, 0⟩ 0)) = false := by decide

theorem test_witness_OwnersActAtAWrite :
    State.reset.ready = true ∧ State.reset.storePending = false ∧ settingsWf State.reset.settings = true ∧
    (formsSetpoint 0x0200 = true ∧ settingRow 0x0200 = some ⟨5000, 5600, 5400, 0⟩ ∧ 5300 ≠ State.reset.setting 0x0200 ∧
      relationHolds 0x0200 (putSetting State.reset.settings 0x0200 5300) = true) ∧
    (settingRow 0x050E = some ⟨0, 20000, 0, 0⟩ ∧
      relationHolds 0x050E (putSetting State.reset.settings 0x050E 20000) = true) ∧
    (settingRow 0x0800 = some ⟨0, 3600, 600, 60⟩ ∧
      relationHolds 0x0800 (putSetting State.reset.settings 0x0800 0) = true) ∧
    let s : State := { State.reset with charge := { RegimeRec.start with absorb := some timer } }
    s.ready = true ∧ settingRow 0x0207 = some ⟨1, 24, 8, 0⟩ ∧ 1 ≠ s.setting 0x0207 ∧ s.charge.absorb = some timer ∧
      s.ms < timer.start + 1 * 3600000 ∧ timer.start + 1 * 3600000 ≤ (atSecond s 3600).ms ∧
      relationHolds 0x0207 (putSetting s.settings 0x0207 1) = true ∧
      settingRow 0x0801 = some ⟨0, 10000, 1200, 0⟩ ∧ relationHolds 0x0801 (putSetting s.settings 0x0801 0) = true ∧
      settingRow 0x0409 = some ⟨0, 24, 4, 0⟩ ∧ relationHolds 0x0409 (putSetting s.settings 0x0409 1) = true ∧
      s.gen.state ≠ .lockout ∧
      (startLockout.gen.state = .lockout ∧ startLockout.gen.causes = ⟨true, false, false⟩ ∧
        startLockout.ms < startLockout.gen.lockoutAt + 1 * 3600000 ∧ 1 ≠ startLockout.setting 0x0409 ∧
        startLockout.gen.lockoutAt + 1 * 3600000 ≤ (atSecond startLockout 3600).ms ∧
        (startLockout.points.get pGenFailRun).state = .normal ∧ (startLockout.points.get pGenFailStop).state = .normal ∧
        (startLockout.points.get pGenFailStart).state ≠ .normal ∧ startLockout.mains.qualified = true ∧
        startLockout.running = false ∧ startLockout.ready = true) := by decide

/-- String 1 enrolled and isolated for heat, its point RAISED. -/
def hotString : State :=
  let s := withTarget attended 0 fun r => { r with thermal := true, drive := .opened, decider := .thermal }
  let s := withPoint s (pStringThermal 0) fun p => { p with raw := true, state := .raised }
  { s with relays := s.relays.set (rTarget 0) ⟨true, 0⟩ }

theorem test_witness_EnablementWritten :
    State.reset.ready = true ∧ State.reset.storePending = false ∧ settingsWf State.reset.settings = true ∧
    State.reset.occupied sTest = false ∧ settingRow 0x0901 = some ⟨0, 1, 1, 0⟩ ∧ 0 ≠ State.reset.setting 0x0901 ∧
    settingRow 0x0100 = some ⟨0, 1, 1, 0⟩ ∧ 0 ≠ State.reset.setting 0x0100 ∧
    relationHolds 0x0100 (putSetting State.reset.settings 0x0100 0) = true ∧
    relationHolds 0x0901 (putSetting State.reset.settings 0x0901 0) = true ∧
    (withSetting State.reset 0x0100 0).ready = true ∧ 1 ≠ (withSetting State.reset 0x0100 0).setting 0x0100 ∧
    relationHolds 0x0100 (putSetting (withSetting State.reset 0x0100 0).settings 0x0100 1) = true ∧
    (hotString.ready = true ∧ (hotString.targets.get (stringTarget 0)).thermal = true ∧
      (hotString.targets.get (stringTarget 0)).drive = .opened ∧ (hotString.targets.get (stringTarget 0)).lvd = false ∧
      (hotString.targets.get (stringTarget 0)).hand = false ∧ (hotString.targets.get (stringTarget 0)).host = none) ∧
    (∀ i ∈ [iDoor, iHand], settingRow (0x0810 + i.val) = some ⟨0, 1, if i = iDoor then 1 else 0, 0⟩ ∧
      (if i = iDoor then 0 else 1) ≠ State.reset.setting (0x0810 + i.val) ∧
      activeOf (State.reset.inputs.get i).contact (if i = iDoor then 0 else 1) ≠ (State.reset.inputs.get i).active) ∧
    (let s := withInput State.reset iDoor true
     activeOf (s.inputs.get iDoor).contact 0 = (s.inputs.get iDoor).active ∧ 0 ≠ s.setting 0x0815) := by
  decide

theorem test_witness_MaskWritten :
    State.reset.ready = true ∧ State.reset.storePending = false ∧ settingsWf State.reset.settings = true ∧
    (∀ p : Fin 41, State.reset.unread p = true) ∧ State.reset.masked 0 = !true ∧ State.reset.masked pGridFail = !true ∧
    let s := withSetting State.reset (0x0781 + 21) 1
    s.ready = true ∧ settingsWf s.settings = true ∧ s.unread pGridFail = true ∧ s.masked pGridFail = !false ∧
      (s.heard.points.get pGridFail).effective = true ∧ isEventPoint pGridFail = false := by decide

theorem test_witness_StoreRestartAndClockTaken :
    State.reset.ready = true ∧ State.reset.powered = true ∧ 255 < 256 ∧ 65535 < 65536 := by decide

theorem test_witness_RecordWrittenOrCutShort :
    State.reset.powered = true ∧ ({ State.reset with powered := false } : State).powered = false ∧
    ∀ contacts straps, Instr.rampStep ≠ .coldRestart contacts straps :=
  ⟨by decide, by decide, fun _ _ h => by cases h⟩

theorem test_witness_SecondCounted :
    State.reset.powered = true ∧ tickBlocks.Nodup ∧ tickBlocks.length = 6 ∧
    State.reset.gen.state.onload = false ∧
    (let s : State := { State.reset with gen := { State.reset.gen with state := .onloadRunning, onload := 28798 } }
     s.gen.state.onload = true ∧ s.gen.onload + 1 < s.setting 0x0408 * 60 ∧ s.mode.mode = .hold ∧
     s.mode.holdOnloadS + 1 < 60) ∧
    (let s : State := { State.reset with
       gen := { State.reset.gen with state := .onloadUnloading, onload := 28800 }
       mode := { State.reset.mode with holdOnloadS := 59, remaining := 2 } }
     s.gen.state = .onloadUnloading ∧ s.mode.mode = .hold ∧ 2 ≤ s.mode.remaining ∧
     (s.points.get pAllowanceOut).raw = false) ∧
    let s : State := { State.reset with clock := some ⟨2, 599, 59⟩ }
    (s.clock.map Clock.next = some ⟨2, 600, 0⟩) ∧ s.setting 0x0507 = 2 ∧ s.setting 0x0508 = 600 ∧
      s.exerciseBar ≠ none := by decide

theorem test_witness_AuxRelaysDriven :
    State.reset.ready = true ∧ ([] : List Byte).length ≠ 2 ∧ 16384 ≤ 65535 ∧ 12288 < 16384 ∧ 12288 % 4096 = 0 ∧
    maskNames 12288 12 = true ∧ maskNames 12288 13 = true ∧ maskNames 0x1001 0 = true ∧ maskNames 0x3800 11 = true ∧
    ∀ j, j < 11 → maskNames 0x3800 j = false := by decide

theorem test_witness_InputChanges :
    State.reset.powered = true ∧ (State.reset.inputs.get iDoor).contact = true ∧
    (State.reset.inputs.get iDoor).contact ≠ false ∧ State.reset.activeWith iDoor false ≠ (State.reset.inputs.get iDoor).active ∧
    (let s := withInput State.reset iDoor true
     (s.inputs.get iDoor).contact ≠ false ∧ s.activeWith iDoor false = (s.inputs.get iDoor).active) ∧
    ((State.reset.inputs.get iHand).contact ≠ true ∧
      State.reset.activeWith iHand true ≠ (State.reset.inputs.get iHand).active ∧
      State.reset.activeWith iHand true = true ∧ ∀ T : Fin 5, (State.reset.targets.get T).thermal = false ∧
        (State.reset.targets.get T).lvd = false) ∧
    (∀ T : Fin 5, (State.reset.inputs.get (iAux T)).contact ≠ false ∧
      State.reset.activeWith (iAux T) false ≠ (State.reset.inputs.get (iAux T)).active) ∧
    State.reset.occupied sTest = false ∧
    (State.reset.inputs.get iMainsBreakAux).contact ≠ false ∧ (State.reset.inputs.get 15).contact ≠ true ∧
    (State.reset.inputs.get iFuelLow).contact ≠ true ∧
    State.reset.activeWith iFuelLow true ≠ (State.reset.inputs.get iFuelLow).active ∧
    State.reset.sched.reserve = true ∧ State.reset.sched.evaluated = false ∧
    (let s : State := { State.reset with sched := { Scheduler.start with reserve := false, evaluated := true } }
     s.sched.reserve = false ∧ s.sched.evaluated = true) := by decide

theorem test_witness_ContactDebounced :
    State.reset.powered = true ∧ (State.reset.inputs.get iDoor).contact = true ∧
    (State.reset.inputs.get iDoor).contact ≠ false ∧ (State.reset.inputs.get iDoor).interval = none ∧
    State.reset.pending = [] ∧
    ∀ k ∈ [48, 49], (let s : State := { State.reset with
        inputs := State.reset.inputs.modify iDoor fun r => { r with interval := some k } }
      (s.inputs.get iDoor).contact ≠ false ∧ (s.inputs.get iDoor).interval = some k) := by decide

theorem test_witness_ContactorClaimed :
    State.reset.ready = true ∧ 2 < 255 ∧ (withInput State.reset iHand true).ready = true ∧
    (withInput State.reset iHand true).active iHand = true ∧ State.reset.active iHand = false ∧
    State.reset.occupied sTest = false := by decide

theorem test_witness_FeedbackDecides :
    State.reset.powered = true ∧
    (∀ T : Fin 5, (State.reset.targets.get T).timer = some ⟨0, 500⟩ ∧ (State.reset.targets.get T).check = .window ∧
      State.reset.agrees T = true) ∧
    (∀ T : Fin 5, (withInput State.reset (iAux T) false).agrees T = false) ∧
    (∀ n : Fin 4, (State.reset.strings.get n).fault = false ∧
      (State.reset.targets.get (stringTarget n)).service = .closed ∧
      (State.reset.targets.get (stringTarget n)).thermal = false ∧ (State.reset.targets.get (stringTarget n)).lvd = false ∧
      (State.reset.targets.get (stringTarget n)).hand = false ∧ (State.reset.targets.get (stringTarget n)).host = none ∧
      (State.reset.targets.get (stringTarget n)).drive = .closed) ∧
    let s := withTarget State.reset tNeld fun r => { r with check := .disagree }
    s.powered = true ∧ (s.targets.get tNeld).timer = some ⟨0, 500⟩ ∧ (s.targets.get tNeld).check = .disagree := by decide

/-- GRID_FAIL stands RAISED after reset; the mask of every point, and the mask of none. -/
theorem test_witness_PointsAcknowledged :
    State.reset.ready = true ∧ ([1, 255, 255, 255, 255, 255] : List Byte).length = 6 ∧
    maskAt [1, 255, 255, 255, 255, 255] = 2199023255551 ∧ (∀ q : Fin 41, State.reset.unread q = true) ∧
    namedPoints (maskAt [0, 0, 0, 0, 0, 0]) = [] ∧ namedPoints (maskAt [1, 0, 0, 0, 0, 0]) = [40] ∧
    namedPoints (maskAt [0, 0, 0, 0, 0, 1]) = [0] := by decide

/-- A string whose fault marker stands, its contactor open and shown open. -/
def faultedString : State :=
  let s := withTarget State.reset 0 fun r => { r with service := .opened, drive := .opened, check := .agree, timer := none }
  let s := withInput s (iAux 0) false
  let s := withPoint s (pStringFault 0) fun p => { p with raw := true, state := .raised }
  { s with
    relays := s.relays.set (rTarget 0) ⟨true, 0⟩
    strings := s.strings.modify 0 fun r => { r with fault := true } }

theorem test_witness_PointsCleared :
    State.reset.ready = true ∧ (∀ n : Fin 4, (State.reset.strings.get n).fault = false) ∧
    (∀ q : Fin 41, State.reset.unread q = true) ∧
    faultedString.ready = true ∧ ([0, 0, 0, 0, 0, 32] : List Byte).length = 6 ∧ maskAt [0, 0, 0, 0, 0, 32] = 32 ∧
    namedPoints (maskAt [0, 0, 0, 0, 0, 32]) = [pStringFault 0] ∧ faultedString.unread (pStringFault 0) = true ∧
    (faultedString.strings.get 0).fault = true ∧ faultedString.agrees (stringTarget 0) = true ∧
    faultedString.occupied sTest = false ∧ faultedString.enrolled 0 = true ∧
    (let r := faultedString.targets.get (stringTarget 0)
     r.service = .opened ∧ r.drive = .opened ∧ r.thermal = false ∧ r.lvd = false ∧ r.hand = false ∧ r.host = none) := by
  decide

theorem test_witness_HeldLocksReleased :
    startLockout.ready = true ∧ startLockout.gen.state = .lockout ∧ startLockout.running = false ∧
    startLockout.mains.qualified = true ∧ namedPoints (maskAt [0, 0, 0, 0x40#8, 0, 0]) = [pGenFailStart] ∧
    (∀ q ∈ [pGenFailStart, pGenFailRun, pGenFailStop],
      ((startLockout.points.get q).state = .normal ∨ (startLockout.points.get q).state = .latched) ∧
      (startLockout.points.get q).raw = false) ∧
    (startLockout.points.get pGenFailStart).state = .latched ∧
    (let s := withPoint startLockout pGenFailRun fun p => { p with state := .latched }
     s.gen.state = .lockout ∧ pGenFailRun ≠ pGenFailStart ∧ (s.points.get pGenFailRun).state = .latched) ∧
    namedPoints (maskAt [0, 0, 0, 0, 0x20#8, 0]) = [pStringThermal 0] ∧
    (∀ v ∈ [450, 451], let s := withReading hotString (cStrT 0) v
      s.ready = true ∧ (s.targets.get (stringTarget 0)).thermal = true ∧ s.reads (cStrT 0) = some v ∧
      s.setting 0x0607 = 450 ∧ (s.heard.points.get (pStringThermal 0)).raw = true ∧
      (s.heard.points.get (pStringThermal 0)).state = .raised ∧ (s.heard.points.get (pStringThermal 0)).proof = false ∧
      s.masked (pStringThermal 0) = false ∧ s.occupied sTest = false) := by decide

theorem test_witness_PointProved :
    State.reset.ready = true ∧ ([] : List Byte).length ≠ 1 ∧ 41 < 42 ∧ isEventPoint pGenFailStart = true ∧
    isEventPoint pSmoke = false ∧ ((State.reset.heard.points.get pSmoke).raw || (State.reset.heard.points.get pSmoke).proof) = false ∧
    isEventPoint pGridFail = false ∧ (State.reset.heard.points.get pGridFail).raw = true := by decide

theorem test_witness_EscalationFollows :
    State.reset.powered = true ∧ (State.reset.points.get pGridFail).timer = some ⟨0, 14400000⟩ ∧
    State.reset.ready = true ∧ State.reset.storePending = false ∧ settingsWf State.reset.settings = true ∧
    min 0 72 ≠ State.reset.setting 0x07C0 ∧ min 1 72 ≠ State.reset.setting 0x07C0 ∧
    (State.reset.points.get pGridFail).raisedAt + min 1 72 * 3600000 ≤ (atSecond State.reset 3600).ms ∧
    min 0 3 ≠ State.reset.setting (0x0701 + pGridFail.val) ∧ min 1 3 ≠ State.reset.setting (0x0701 + pSmoke.val) := by
  decide

theorem test_witness_RunBegun :
    State.reset.ready = true ∧ 65535 < 65536 ∧ State.reset.gen.state = .off ∧ State.reset.running = false ∧
    State.reset.occupied sGenerator = false ∧ State.reset.occupied sTest = false ∧ State.reset.setting 0x0400 ≠ 0 ∧
    (withSetting State.reset 0x0400 0).ready = true ∧ (withSetting State.reset 0x0400 0).setting 0x0400 = 0 ∧
    (let s := withInput (withSetting State.reset 0x0400 0) iGenRunning true
     s.ready = true ∧ s.running = true ∧ s.setting 0x0400 = 0 ∧ s.setting 0x0404 ≠ 0) ∧
    (let s := withInput (withSetting (withSetting State.reset 0x0400 0) 0x0404 0) iGenRunning true
     s.ready = true ∧ s.running = true ∧ s.setting 0x0404 = 0 ∧ s.genWatches = false) := by decide

/-- The full plant at 25.0 °C, with one module ONLINE and one in STANDBY worth rotating in. -/
def coolPlant : State :=
  let s := ([0, 1, 2, 3] : List (Fin 4)).foldl (fun s n => withReading s (cStrT n) 250) fullPlant
  withModule (withModule s 0 (module .online 61200)) 4 (module .standby 41000)

theorem test_witness_ChargeTestAndShelfBegun :
    coolPlant.ready = true ∧ coolPlant.occupied sCharge = false ∧ coolPlant.occupied sTest = false ∧
    coolPlant.equalizeBar = none ∧ coolPlant.heard.testBar = none ∧ coolPlant.occupied sShelf = false ∧
    State.reset.ready = true ∧ State.reset.occupied sShelf = false ∧ State.reset.mostWornOnline = none ∧
    (withModule coolPlant 4 (module .standby 59760)).mostWornOnline = some 0 ∧
    (withModule coolPlant 4 (module .standby 59760)).leastWornStandby = some 4 ∧
    (withModule coolPlant 4 (module .standby 59760)).worthRotating 4 0 = false ∧
    coolPlant.mostWornOnline = some 0 ∧ coolPlant.leastWornStandby = some 4 ∧ coolPlant.worthRotating 4 0 = true ∧
    65535 < 65536 := by decide

theorem test_witness_BeginRefused :
    State.reset.ready = true ∧ kindOf (0 : Byte).toNat = none ∧ kindOf (6 : Byte).toNat = none ∧
    kindOf (3 : Byte).toNat = some .equalize ∧ OpKind.equalize.slot ≠ sTest ∧ OpKind.equalize.slot = sCharge ∧
    ([] : List Byte).length ≠ 2 * OpKind.equalize.argCount ∧ ([0, 0] : List Byte).length = 2 * OpKind.equalize.argCount ∧
    (let s := withOp attended sCharge (operation .stopping .equalize [4])
     s.ready = true ∧ s.occupied sCharge = true) ∧
    (let s := withOp attended sTest (operation .running .dischargeTest [180, 30, 4700])
     s.ready = true ∧ s.occupied sCharge = false ∧ s.occupied sTest = true) ∧
    (let s := withOp attended sCharge (operation .running .equalize [4])
     s.ready = true ∧ s.occupied sTest = false ∧ s.occupied sCharge = true) ∧
    State.reset.occupied sCharge = false ∧ State.reset.occupied sTest = false ∧
    State.reset.heard.beginBar .equalize = some 1 := by decide

theorem test_witness_OperationEnded :
    State.reset.ready = true ∧ State.reset.occupied sCharge = false ∧
    (let s := withOp attended sTest (operation .stopping .dischargeTest [180, 30, 4700])
     s.ready = true ∧ s.occupied sTest = true ∧ s.slotRunning sTest = false) ∧
    (let s := withOp attended sCharge (operation .running .equalize [4])
     s.ready = true ∧ s.slots.get sCharge = some (operation .running .equalize [4])) ∧
    (let s : State := withOp { attended with shelf := { Shelf.start with rotation := some ⟨0, 4, [4], ⟨[61200, 0, 0, 0, 41000, 0, 0, 0, 0, 0, 0, 0], rfl⟩⟩ } } sShelf
       (operation .running .rotate [])
     s.ready = true ∧ s.slots.get sShelf = some (operation .running .rotate []) ∧
     s.shelf.rotation = some ⟨0, 4, [4], ⟨[61200, 0, 0, 0, 41000, 0, 0, 0, 0, 0, 0, 0], rfl⟩⟩) ∧
    (let s : State := withOp { attended with test := { TestRec.start with phase := .discharging } } sTest
       (operation .running .dischargeTest [180, 30, 4700])
     s.ready = true ∧ s.slots.get sTest = some (operation .running .dischargeTest [180, 30, 4700]) ∧
     s.test.phase = .discharging) ∧
    (let s : State := withOp attended sTest (operation .running .dischargeTest [180, 30, 4700])
     s.ready = true ∧ s.slots.get sTest = some (operation .running .dischargeTest [180, 30, 4700]) ∧
     s.test.phase = .lowering) ∧
    (let s := withOp (withGen attended .onloadRunning) sGenerator (operation .running .run [0])
     s.ready = true ∧ s.slots.get sGenerator = some (operation .running .run [0]) ∧ s.gen.state = .onloadRunning ∧
     s.gen.stop = none) := by decide

theorem test_witness_RegimeTimersExpire :
    State.reset.powered = true ∧
    ({ State.reset.charge with regime := .absorb, absorb := some timer }).absorb = some timer ∧
    let s : State := withOp { fullPlant with charge := { fullPlant.charge with regime := .equalize, eqTimer := some timer } }
      sCharge (operation .running .equalize [4])
    s.powered = true ∧ s.charge.eqTimer = some timer ∧ s.slots.get sCharge = some (operation .running .equalize [4]) ∧
      (operation .running .equalize [4]).occupied = true ∧ (operation .running .equalize [4]).args = [4] := by decide

/-- A discharge test of two strings, its timers running. -/
def testing (st : OpState) (step : Nat) : State :=
  withOp { fullPlant with
    charge := { fullPlant.charge with regime := .test }
    test := { TestRec.start with
      step := step, members := [⟨0, 72000000, 36000, 60, 0, none⟩, ⟨1, 72000000, 0, 0, 0, none⟩]
      stepTimer := some timer, minuteTimer := some timer, limitTimer := some timer } }
    sTest (operation st .dischargeTest [180, 30, 4700])

/-- The same in DISCHARGING, from 54.00 V to 46.00 V, with the grid's watches TRUE. -/
def discharging (st : OpState) (step : Nat) : State :=
  let s := gridOk (testing st step)
  { s with test := { s.test with phase := .discharging, s0 := 5400, testV := 4600 } }

theorem test_witness_TestTimersExpire :
    (testing .running 14).powered = true ∧ (testing .running 14).test.stepTimer = some timer ∧
    (testing .running 14).test.step + 1 < 16 ∧ 16 ≤ (testing .running 15).test.step + 1 ∧
    (testing .running 0).test.minuteTimer = some timer ∧ (testing .running 0).slotRunning sTest = true ∧
    (testing .running 0).slots.get sTest = some (operation .running .dischargeTest [180, 30, 4700]) ∧
    (testing .running 0).test.limitTimer = some timer ∧
    (testing .stopping 0).slots.get sTest = some (operation .stopping .dischargeTest [180, 30, 4700]) ∧
    (testing .stopping 0).test.minuteTimer = some timer ∧
    (∀ m ∈ (testing .running 0).test.members, ∀ m' ∈ (testing .running 0).test.members, m'.index = m.index → m' = m) ∧
    (testing .running 0).testMember 3 = false ∧ (testing .running 0).test.phase = .lowering ∧
    (discharging .running 16).test.phase = .discharging ∧ (discharging .running 16).test.limitTimer = some timer := by
  decide

theorem test_witness_StringSynchronised :
    State.reset.ready = true ∧ ([] : List Byte).length ≠ 1 ∧ 4 < 5 ∧ 255 < 256 ∧ State.reset.inService 0 = true ∧
    faultedString.inService 0 = false ∧ (testing .running 0).inService 0 = true ∧
    (testing .running 0).occupied sTest = true := by decide

/-- A state with a watch ARMING, one completion from TRUE. -/
def arming (s : State) (k : Fin 16) (elapsed : Nat) : State :=
  { s with meas := { s.meas with watches := s.meas.watches.set k ⟨.arming, elapsed⟩ } }

/-- The readings of a bus at 43.00 V and of string 1 at +2000 cA, all others 0. -/
def rawLow : Table Int 20 := (raw0.set cBusV 4300).set (cStrI 0) 2000

theorem test_witness_ScanTaken :
    State.reset.powered = true ∧ scanBlocks.Nodup ∧ scanBlocks.length = 8 ∧
    (let s := arming State.reset wLvdOpen 29
     let m := scanRecords s.settings s.meas rawLow
     (m.watches.get wLvdReclose).reading = false ∧ (m.watches.get wLvdOpen).reading = true ∧
     (s.meas.watches.get wLvdOpen).reading = false ∧ s.lvd ≠ .battOff) ∧
    (let s := arming State.reset wNeldOpen 29
     let m := scanRecords s.settings s.meas rawLow
     (m.watches.get wLvdOpen).reading = false ∧ (m.watches.get wNeldOpen).reading = true ∧
     (s.meas.watches.get wNeldOpen).reading = false ∧ s.lvd = .normal) ∧
    State.reset.enrolled 0 = true ∧ stringSetting State.reset.settings 0 6 = 900 ∧
    (State.reset.strings.get 0).tail + 1 < 900 ∧
    (let measured : State := { State.reset with meas := scanRecords State.reset.settings State.reset.meas rawLow }
     measured.reads (cStrI 0) = some 2000) ∧
    (let s := withSetting State.reset 0x0906 0
     let measured : State := { s with meas := scanRecords s.settings s.meas rawLow }
     s.enrolled 0 = true ∧ measured.reads (cStrI 0) = none) ∧
    (let s := { arming fullPlant wLvdReclose 9 with lvd := .neldShed }
     let m := measured (gridOk s) (raw0.set cBusV 5000)
     m.rose (gridOk s).meas wLvdReclose = true ∧ m.rose (gridOk s).meas wLvdOpen = false ∧
     m.rose (gridOk s).meas wNeldOpen = false ∧ m.sourcesStill = true ∧ (gridOk s).sourcePresent = true ∧
     (gridOk s).lvd ≠ .normal) ∧
    (let s := { arming State.reset wLvdReclose 9 with lvd := .neldShed }
     let m := measured s (raw0.set cBusV 5000)
     m.rose s.meas wLvdReclose = true ∧ m.sourcesStill = true ∧ s.sourcePresent = false) := by decide

/-- A string in ABSORB, one counted scan from the end of its tail. -/
def tailing : State :=
  { State.reset with
    strings := State.reset.strings.modify 0 fun r => { r with tail := 899 }
    charge := { State.reset.charge with regime := .absorb } }

theorem test_witness_StringsScanned :
    State.reset.powered = true ∧ scanBlocks.Nodup ∧ scanBlocks.length = 8 ∧
    (measured State.reset raw0).scanStill State.reset.meas = true ∧ State.reset.enrolled 0 = true ∧
    (after (.scanCompletion raw0 scanBlocks) State.reset).charge.regime = State.reset.charge.regime ∧
    ((measured tailing (raw0.set (cStrI 0) 200)).scanStill tailing.meas = true ∧ tailing.inService 0 = true ∧
      (tailing.strings.get 0).tail + 1 = stringSetting tailing.settings 0 6 ∧ stringSetting tailing.settings 0 5 = 200 ∧
      (after (.scanCompletion (raw0.set (cStrI 0) 200) scanBlocks) tailing).charge.regime = .absorb) ∧
    (let s := withSetting State.reset 0x0100 0
     (measured s raw0).scanStill s.meas = true ∧ s.enrolled 0 = false) := by decide +kernel

/-- A plant on the grid in a regime, its strings at their capacity and full. -/
def inRegime (r : Regime) (held : Option Nat) : State :=
  gridOk { fullPlant with
    strings := Table.fill 4 { StringRec.start with full := true, q := 144000000 }
    charge := { fullPlant.charge with regime := r, bulkHeld := held, setpoint := 5400 } }

/-- The same with no string full. -/
def notFull (s : State) : State := { s with strings := Table.fill 4 StringRec.start }

/-- An equalize in flight. -/
def equalizing : State := withOp (inRegime .equalize none) sCharge (operation .running .equalize [4])

/-- The readings of a bus at 53.90 V, string 1 at a temperature. -/
def rawCharge (t : Int) : Table Int 20 := (raw0.set cBusV 5390).set (cStrT 0) t

theorem test_witness_RegimeScanned :
    scanBlocks.Nodup ∧ scanBlocks.length = 8 ∧
    (∀ s ∈ [inRegime .noSource none, inRegime .bulk none, inRegime .bulk (some 58), inRegime .bulk (some 59),
        inRegime .absorb none, inRegime .float none, equalizing, notFull (inRegime .noSource none),
        notFull (inRegime .bulk (some 59)), notFull (inRegime .absorb none)],
      ∀ t ∈ [349, 350, 450],
        s.powered = true ∧ (measured s (rawCharge t)).scanStill s.meas = true ∧
        ∀ n, ((after (.scanCompletion (rawCharge t) scanBlocks) s).strings.get n).full = (s.strings.get n).full) ∧
    equalizing.slots.get sCharge = some (operation .running .equalize [4]) ∧
    (operation .running .equalize [4]).occupied = true ∧ (inRegime .bulk none).setting 0x0208 = 450 ∧
    (inRegime .bulk none).setting 0x020B = 350 ∧
    (let s := (indices 4).foldl (fun s n => withInput s (iAux (stringTarget n)) false) (inRegime .bulk none)
     s.serviceSet = [] ∧ (measured s (rawCharge 250)).scanStill s.meas = true) := by decide +kernel

/-- String 1 CHARGING, its rate standing at dT_limit between two samples. -/
def heating : State :=
  { State.reset with
    strings := State.reset.strings.modify 0 fun r => { r with phase := .charging }
    meas := { State.reset.meas with scanCount := 1, rates := State.reset.meas.rates.set 0 ⟨[], some 30⟩ } }

theorem test_witness_ThermalScanned :
    State.reset.powered = true ∧ scanBlocks.Nodup ∧ scanBlocks.length = 8 ∧ State.reset.enrolled 0 = true ∧
    thermalRelation State.reset.settings = true ∧ State.reset.setting 0x0606 = 550 ∧ State.reset.setting 0x0607 = 450 ∧
    (State.reset.targets.get (stringTarget 0)).thermal = false ∧
    (State.reset.targets.get (stringTarget 0)).drive = .closed ∧
    (∀ t ∈ [549, 550], (measured State.reset (raw0.set (cStrT 0) t)).reads (cStrT 0) = some t) ∧
    (let raw := (raw0.set (cStrT 0) 451).set (cStrI 0) 51
     ((measured heating raw).meas.rates.get 0).rate = some 30 ∧ heating.setting 0x0608 = 30 ∧
     (measured heating raw).reads (cStrT 0) = some 451 ∧
     ((after (.scanCompletion raw scanBlocks) heating).strings.get 0).phase = .charging) ∧
    ((measured State.reset raw0).meas.rates.get 0).rate = none ∧
    (hotString.targets.get (stringTarget 0)).thermal = true ∧
    (hotString.points.get (pStringThermal 0)).state = .raised ∧
    (let s := withPoint hotString (pStringThermal 0) fun p => { p with state := .held }
     (s.points.get (pStringThermal 0)).state = .held ∧
     ∀ t ∈ [450, 451], (measured s (raw0.set (cStrT 0) t)).reads (cStrT 0) = some t) := by decide +kernel

/-- A run, its reason given, that stands in a state while the grid comes back. -/
def gridReturning (st : GenState) (reason : Reason) (args : List Nat) : State :=
  let s := withOp (withGen attended st) sGenerator { operation .running .run args with reason := some reason }
  let s := arming (arming s wGridV 59) wGridF 59
  let s := withWatch (withWatch s wGenV) wGenF
  { s with gen := { s.gen with onload := if st.onload then 3599 else 0 } }

/-- The readings of a grid that stands; those of an engine that runs too. -/
def rawGrid : Table Int 20 := (raw0.set cGridV 2300).set cGridF 5000

theorem test_witness_GridScanned :
    scanBlocks.Nodup ∧ scanBlocks.length = 8 ∧ State.reset.powered = true ∧
    ((measured State.reset raw0).gridWatches = State.reset.mains.qualified ∧
      (measured State.reset raw0).engineQuiet = true) ∧
    (onGrid.mains.qualified = true ∧ (measured onGrid raw0).gridWatches = false ∧
      (let p := (withPoint onGrid pGridFail fun p => { p with raw := false, state := .normal }).points.get pGridFail
       p.raw = false ∧ p.proof = false ∧ p.state = .normal) ∧ onGrid.masked pGridFail = false) ∧
    (∀ c ∈ [(Reason.lowCharge, [0]), (.host, [59]), (.host, [0])],
      let s := gridReturning .onloadRunning c.1 c.2
      let m := measured s ((rawGrid.set cGenV 2300).set cGenF 5000)
      s.powered = true ∧ s.mains.qualified = false ∧ m.gridWatches = true ∧ m.engineQuiet = true ∧
      s.gen.onload < s.setting 0x0407 * 60 ∧ s.gen.stop = none ∧ s.occupied sTest = false ∧
      s.slots.get sGenerator = some { operation .running .run c.2 with reason := some c.1 }) ∧
    (58 + 1) * 60 ≤ (gridReturning .onloadRunning .host [59]).gen.onload ∧
    (∀ st ∈ [GenState.prestart, .crank, .rest],
      let s := gridReturning st .lowCharge [0]
      let m := measured s rawGrid
      s.mains.qualified = false ∧ m.gridWatches = true ∧ m.engineQuiet = true ∧ s.running = false ∧
      m.running = false ∧ s.gen.onload < s.setting 0x0407 * 60) := by decide +kernel

/-- A test in DISCHARGING with its counts as given. -/
def counting (delivered : Nat) (ends lows : Option Nat) : State :=
  let s := discharging .running 16
  { s with test := { s.test with
      endCount := ends, lowCount := lows, members := [⟨0, 72000000, delivered, 60, 0, none⟩] } }

/-- The readings of a bus during a test. -/
def rawTest (v : Int) : Table Int 20 := rawGrid.set cBusV v

theorem test_witness_TestScanned :
    scanBlocks.Nodup ∧ scanBlocks.length = 8 ∧
    (∀ c ∈ [(counting 21600000 none none, 5000), (counting 0 (some 9) none, 4700), (counting 0 none (some 9), 4620),
        (counting 21599999 (some 8) (some 8), 4621)],
      let m := measured c.1 (rawTest c.2)
      c.1.powered = true ∧ c.1.slots.get sTest = some (operation .running .dischargeTest [180, 30, 4700]) ∧
      (operation .running .dischargeTest [180, 30, 4700]).occupied = true ∧ c.1.gen.state = .off ∧
      (m.gridWatches == c.1.mains.qualified) = true ∧ m.thermalStill = true ∧ m.ladderStill c.1.meas = true ∧
      m.running = false ∧ m.reads cBusV = some c.2) ∧
    30 * 72000000 ≤ 100 * 21600000 ∧ ¬ 30 * 72000000 ≤ 100 * 21599999 ∧
    (let s := counting 0 none none
     s.mains.qualified = true ∧
     (let lost := { s with meas := attended.meas }
      (measured lost (rawTest 5000)).gridWatches = false ∧ (measured lost (rawTest 5000)).thermalStill = true ∧
      (measured lost (rawTest 5000)).ladderStill lost.meas = true) ∧
     (let m := measured s ((rawTest 5000).set (cStrT 0) 550)
      s.testMember 0 = true ∧ s.enrolled 0 = true ∧ (s.targets.get (stringTarget 0)).thermal = false ∧
      m.thermalHot 0 = true ∧ ∀ n, n ≠ 0 → s.testMember n = false) ∧
     (let low := arming s wLvdOpen 29
      let m := measured low (rawTest 4400)
      m.rose low.meas wLvdOpen = true ∧ m.rose low.meas wLvdReclose = false ∧ low.lvd ≠ .battOff ∧
      m.thermalStill = true) ∧
     (let on := withInput s iGenRunning true
      (measured on (rawTest 5000)).running = true ∧ (measured on (rawTest 5000)).ladderStill on.meas = true)) := by
  decide +kernel

/-- A shelf with one module ONLINE and two in STANDBY, on a load of 42 A. -/
def shelfAt (online : Nat) : State :=
  let s := withReading State.reset cLoadI 4200
  (indices 12).foldl (fun s p => withModule s p (module (if p.val < online then .online else .standby) p.val)) s

theorem test_witness_PollCycleTaken :
    (shelfAt 1).powered = true ∧ (shelfAt 1).shelf.rotation = none ∧ (shelfAt 1).shelf.ramp.kind = .none ∧
    (shelfAt 1).reads cLoadI = some 4200 ∧ (shelfAt 1).allowance = 0 ∧ (shelfAt 1).healthyCount = 12 ∧
    min 12 (max (ceilDiv (4200 * 100) (3000 * 80) + 1) 2) = 3 ∧
    (shelfAt 2).energizedCount < 3 ∧ (shelfAt 2).leastWornStandby = some 2 ∧ (shelfAt 3).energizedCount = 3 ∧
    3 < (shelfAt 4).energizedCount ∧ (shelfAt 4).shelf.shedTimer = none ∧ (shelfAt 4).mostWornOnline = some 3 ∧
    (let s : State := { shelfAt 4 with shelf := { (shelfAt 4).shelf with shedTimer := some 0, cycle := 998 } }
     s.shelf.shedTimer = some 0 ∧ max s.ms ((s.shelf.cycle + 1) * 600) < 0 + s.setting 0x0304 * 1000) ∧
    (let s : State := { shelfAt 4 with shelf := { (shelfAt 4).shelf with shedTimer := some 0, cycle := 999 } }
     0 + s.setting 0x0304 * 1000 ≤ max s.ms ((s.shelf.cycle + 1) * 600)) ∧
    (let s : State := { shelfAt 4 with mains := ⟨false, .generator, .genFeed, none⟩ }
     s.mains.source = .generator) ∧
    ({ Ramp.start with kind := .walkin, step := 15 }).step < 16 := by decide

theorem test_witness_ModuleReplied :
    (shelfAt 2).powered = true ∧ (shelfAt 2).shelf.rotation = none ∧ (shelfAt 2).shelf.plan.get 0 ≠ .silent ∧
    ({ shelfAt 2 with shelf := { (shelfAt 2).shelf with plan := Table.fill 12 .silent } } : State).shelf.plan.get 0 = .silent ∧
    (shelfAt 2).moduleEnrolled 0 = true ∧ replyState ((shelfAt 2).moduleState 0) .off 0 = .fault ∧
    ((shelfAt 2).moduleState 0).energized = true ∧ (shelfAt 2).leastWornStandby = some 2 ∧
    (let s := withModule (withSetting (shelfAt 2) 0x0309 0x0FFE) 0 (module .notFitted 0)
     s.moduleEnrolled 0 = false ∧ s.moduleState 0 = .notFitted ∧ s.shelf.plan.get 0 ≠ .silent) := by decide

theorem test_witness_ModuleMissed :
    (shelfAt 2).powered = true ∧ (shelfAt 2).shelf.rotation = none ∧ (shelfAt 2).shelf.plan.get 0 ≠ .silent ∧
    (let s := withModule (shelfAt 2) 0 { module .online 0 with miss := 2 }
     s.shelf.plan.get 0 ≠ .silent ∧ (s.moduleState 0).energized = true ∧ s.leastWornStandby = some 2) ∧
    (let s := withModule (withSetting (shelfAt 2) 0x0309 0x0FFE) 0 { module .found 0 with miss := 2 }
     s.moduleState 0 = .found ∧ s.shelf.plan.get 0 ≠ .silent) ∧
    (let s := withModule (shelfAt 2) 0 { module .starting 0 with startTimer := some timer }
     (s.shelf.modules.get 0).startTimer = some timer ∧ (s.shelf.modules.get 0).state = .starting ∧
     s.shelf.rotation = none) := by decide

theorem test_witness_RampStepTaken :
    State.reset.powered = true ∧ State.reset.shelf.ramp.timer = none ∧
    ∀ k ∈ [14, 15, 16],
      ({ State.reset with shelf := { Shelf.start with ramp := ⟨.walkin, 0, 8200, k, 1875, some timer⟩ } } : State).shelf.ramp.timer =
        some timer := by decide

theorem test_witness_ModuleEnrolledAndRetired :
    (shelfAt 3).ready = true ∧ settingsWf (shelfAt 3).settings = true ∧ (shelfAt 3).storePending = false ∧
    (shelfAt 3).moduleEnrolled 0 = true ∧ (shelfAt 3).shelf.rotation = none ∧
    ({ shelfAt 3 with storePending := true } : State).ready = true ∧
    (let s := withModule (withSetting (shelfAt 3) 0x0309 0x0FFE) 0 (module .notFitted 0)
     s.ready = true ∧ settingsWf s.settings = true ∧ s.moduleEnrolled 0 = false) ∧
    (let s : State := { shelfAt 3 with shelf := { (shelfAt 3).shelf with rotation := some ⟨0, 4, [4], Table.fill 12 0⟩ } }
     s.ready = true ∧ s.moduleEnrolled 0 = true ∧ s.shelf.rotation = some ⟨0, 4, [4], Table.fill 12 0⟩) ∧
    (((shelfAt 2).moduleState 0 == .online && decide ((shelfAt 2).energizedCount < (shelfAt 2).shelf.inForce.minOnline + 1)) = true) ∧
    (((shelfAt 3).moduleState 0 == .online && decide ((shelfAt 3).energizedCount < (shelfAt 3).shelf.inForce.minOnline + 1)) = false) := by
  decide

/-- A run in flight, with the controller in a state. -/
def running (st : GenState) : State := withOp (withGen attended st) sGenerator (operation .running .run [0])

/-- The same with GEN_RUNNING active. -/
def turning (st : GenState) : State := withInput (running st) iGenRunning true

theorem test_witness_StartTimersExpire :
    (running .prestart).powered = true ∧ (running .prestart).gen.timer = some timer ∧
    (running .prestart).running = false ∧ (running .prestart).gen.state = .prestart ∧
    (running .crank).gen.state = .crank ∧ (running .crank).gen.attempt < (running .crank).setting 0x0403 ∧
    (running .rest).gen.state = .rest ∧
    let s : State := { running .crank with gen := { (running .crank).gen with attempt := 3 } }
    s.powered = true ∧ s.gen.timer = some timer ∧ s.running = false ∧ s.gen.state = .crank ∧
      s.setting 0x0403 ≤ s.gen.attempt ∧ s.masked pGenFailStart = false ∧ s.gen.kept = none ∧
      s.slots.get sGenerator = some (operation .running .run [0]) ∧ (operation .running .run [0]).occupied = true ∧
      ((turning .prestart).gen.state = .prestart ∧ (turning .prestart).gen.timer = some timer ∧
        (turning .prestart).running = true ∧ (turning .prestart).setting 0x0404 ≠ 0 ∧
        (withSetting (turning .prestart) 0x0404 0).setting 0x0404 = 0 ∧ (turning .prestart).genWatches = false) := by
  decide

theorem test_witness_RunStoppedByEnd :
    (∀ st ∈ [GenState.prestart, .crank, .rest, .warmup],
      (running st).ready = true ∧ (running st).slots.get sGenerator = some (operation .running .run [0]) ∧
      (running st).gen.stop = none ∧ (running st).gen.state = st ∧ (turning st).running = true ∧
      (let s : State := { running st with mains := ⟨true, .grid, .mainsFeed, none⟩ }
       s.running = false ∧ s.mains.qualified = true ∧ s.gen.kept = none)) ∧
    ((turning .idling).ready = true ∧ (turning .idling).gen.state = .idling ∧ (turning .idling).running = true ∧
      (turning .idling).faultInput = false ∧ (turning .idling).setting 0x0406 ≠ 0 ∧
      (withSetting (turning .idling) 0x0406 0).setting 0x0406 = 0) ∧
    (let s : State := { turning .onloadWalkin with mains := ⟨false, .none, .toGen, some timer⟩ }
     s.ready = true ∧ s.gen.state = .onloadWalkin ∧ s.mains.changeover = .toGen ∧ s.running = true ∧
     s.faultInput = false) ∧
    (let s : State := { turning .onloadWalkin with mains := ⟨false, .generator, .genFeed, none⟩ }
     s.ready = true ∧ s.gen.state = .onloadWalkin ∧ s.mains.changeover ≠ .toGen) := by decide

theorem test_witness_EngineSupervised :
    (running .crank).powered = true ∧ (running .crank).gen.state = .crank ∧ (running .crank).setting 0x0404 ≠ 0 ∧
    ((running .crank).inputs.get iGenRunning).contact ≠ true ∧ (running .crank).activeWith iGenRunning true = true ∧
    (running .crank).active iGenRunning = false ∧
    ((turning .warmup).gen.state = .warmup ∧ (turning .warmup).gen.timer = some timer ∧
      (turning .warmup).running = true ∧ (turning .warmup).genWatches = false) ∧
    (let s := withWatch (withWatch (turning .warmup) wGenV) wGenF
     s.genWatches = true ∧ s.faultInput = false ∧ s.genKind .run = true ∧ s.mains.changeover = .mainsFeed ∧
     s.running = true ∧ s.gen.timer = some timer) ∧
    (let s : State := { turning .warmup with gen := { (turning .warmup).gen with timer := none, window := some timer } }
     s.gen.state = .warmup ∧ s.gen.window = some timer ∧ s.running = true) ∧
    let s : State := { turning .onloadRunning with mains := ⟨false, .generator, .genFeed, none⟩ }
    s.gen.state = .onloadRunning ∧ s.running = true ∧ s.mains.changeover = .genFeed ∧
      ∀ i ∈ [iLowOil, iHighTemp], (s.inputs.get i).contact ≠ true ∧ s.activeWith i true = true ∧ s.active i = false := by
  decide

theorem test_witness_ChangeoverCompletes :
    (let s : State := { withWatch (withWatch (turning .onloadWalkin) wGenV) wGenF with
       mains := ⟨false, .none, .toGen, some timer⟩ }
     s.powered = true ∧ s.mains.gapTimer = some timer ∧ s.engineQuiet = true ∧ s.gen.state ≠ .idling ∧
     s.mains.changeover = .toGen ∧ s.gen.state.onload = true) ∧
    (let s : State := { turning .cooldown with mains := ⟨true, .none, .toMains, some timer⟩ }
     s.powered = true ∧ s.mains.gapTimer = some timer ∧ s.engineQuiet = true ∧ s.gen.state ≠ .idling ∧
     s.mains.changeover = .toMains) := by decide

theorem test_witness_StopTimersExpire :
    (let s : State := { turning .idling with gen := { (turning .idling).gen with exercise := some timer } }
     s.powered = true ∧ s.gen.state = .idling ∧ s.gen.exercise = some timer ∧ s.gen.stop = none ∧ s.running = true ∧
     s.faultInput = false ∧ s.setting 0x0406 ≠ 0 ∧ s.slots.get sGenerator = some (operation .running .run [0]) ∧
     (operation .running .run [0]).state = .running) ∧
    ((turning .cooldown).gen.state = .cooldown ∧ (turning .cooldown).gen.timer = some timer ∧
      (turning .cooldown).running = true) ∧
    ((turning .rundown).gen.state = .rundown ∧ (turning .rundown).gen.timer = some timer ∧
      (turning .rundown).running = true ∧ (turning .rundown).masked pGenFailStop = false ∧
      (turning .rundown).slots.get sGenerator = some (operation .running .run [0])) ∧
    (let s : State := { onGrid with gen := { Generator.start with state := .lockout, retry := some timer } }
     s.gen.retry = some timer ∧
     ¬ ((withPoint s pGenFailRun fun p => { p with state := .latched }).points.get pGenFailRun).state = .normal ∧
     (let s := withPoint s pGenFailStart fun p => { p with state := .latched }
      (s.points.get pGenFailRun).state = .normal ∧ (s.points.get pGenFailStop).state = .normal ∧ s.gen.state = .lockout ∧
      (s.points.get pGenFailStart).state ≠ .normal ∧ s.mains.qualified = true ∧ s.running = false ∧
      s.gen.retry = some timer)) := by decide

/-- A scheduled run ON LOAD for a reason, for longer than its minimum time. -/
def loaded (reason : Reason) (regime : Regime) (args : List Nat) : State :=
  let s := turning .onloadRunning
  let r := { operation .running .run args with reason := some reason }
  withOp { s with
    gen := { s.gen with onload := 3600 }
    charge := { s.charge with regime := regime } } sGenerator r

theorem test_witness_EvaluationMade :
    State.reset.powered = true ∧
    (running .crank).gen.state ≠ .off ∧ ((running .crank).genKind .run && (running .crank).gen.state == .onloadRunning) = false ∧
    onGrid.mains.qualified = true ∧
    (∀ c ∈ [(Reason.lowCharge, Regime.float, [0]), (.cycle, .float, [0]), (.cycle, .bulk, [0]), (.host, .bulk, [60])],
      let s := loaded c.1 c.2.1 c.2.2
      s.gen.state ≠ .off ∧ s.genKind .run = true ∧ s.gen.state = .onloadRunning ∧ s.setting 0x0407 * 60 ≤ s.gen.onload ∧
      s.gen.stop = none ∧ (s.charge.regime == .float) = (c.2.1 == .float) ∧
      s.slots.get sGenerator = some { operation .running .run c.2.2 with reason := some c.1 }) ∧
    (59 + 1) * 60 ≤ (loaded .host .bulk [60]).gen.onload ∧
    (attended.gen.state = .off ∧ attended.running = false ∧ attended.mains.qualified = false ∧
      attended.occupied sTest = false) ∧
    (withWatch attended wLvdWarn).watch wLvdWarn = true ∧ (withWatch attended wLvdWarn).setting 0x0400 ≠ 0 ∧
    (let s : State := { attended with
       strings := Table.fill 4 { StringRec.start with socC := 501, sinceFull := 0 }, sched := { Scheduler.start with estimate := 400000 } }
     s.watch wLvdWarn = false ∧ s.lowCharge = false ∧ s.fullDue 1 = false ∧ s.watch wGenStartLow = false) ∧
    (let s := withWatch { attended with strings := Table.fill 4 { StringRec.start with socC := 501, sinceFull := 0 } } wGenStartLow
     s.watch wLvdWarn = false ∧ s.lowCharge = false ∧ s.fullDue 1 = false ∧ s.watch wGenStartLow = true ∧
     s.sched.reserve = true ∧ s.sched.estimate < s.setting 0x050C + s.setting 0x050D) := by decide

theorem test_witness_WarmRestarted :
    State.reset.powered = true ∧ State.reset.link.restart ≠ .accepting ∧
    activeOf (Contacts.healthy.get iGenRunning) (State.reset.setting 0x0810) = false ∧
    activeOf ((Contacts.healthy.set iGenRunning true).get iGenRunning) (State.reset.setting 0x0810) = true := by decide

theorem test_witness_ColdRestarted :
    State.reset.record.good = false ∧ State.reset.stored.good = false ∧
    ({ State.reset with storePending := true } : State).storePending = true := by decide

/-- The default of every setting lies in its range. -/
theorem defaults_fit (id : Nat) : valueFits id (getSetting [] id) = true := by
  have small : ∀ k, k < 2560 → valueFits k (getSetting [] k) = true := by decide +kernel
  by_cases h : id < 2560
  · exact small id h
  · obtain ⟨m, hm⟩ : ∃ m, id / 256 = m + 10 := ⟨id / 256 - 10, by omega⟩
    have none : settingRow id = none := by unfold settingRow; rw [hm]; rfl
    unfold valueFits
    rw [none]

theorem attended_settingsSound : attended.settingsSound := by
  have ok : settingsOk [] := ⟨by decide, defaults_fit, by decide⟩
  exact ⟨ok, ok⟩

theorem test_witness_LogStaysOrdered :
    attended.logOk = true ∧ step (attended.withPending [.rampStep]) = .next attended := ⟨by decide, rfl⟩

theorem test_witness_ContactorsFollowClaims :
    attended.contactorsOk ∧ step (attended.withPending [.rampStep]) = .next attended := ⟨by decide, rfl⟩

theorem test_witness_EngineAndFeedRelaysFollow :
    attended.engineRelaysOk ∧ attended.feedRelaysOk ∧ step (attended.withPending [.rampStep]) = .next attended :=
  ⟨by decide, by decide, rfl⟩

theorem test_witness_AlarmsStayShown :
    attended.settingsSound ∧ attended.maskedOk ∧ attended.severityRelaysOk ∧
    step (attended.withPending [.rampStep]) = .next attended :=
  ⟨attended_settingsSound, by decide, by decide, rfl⟩

theorem test_witness_SettingsAndChargeStayBounded :
    attended.settingsSound ∧ attended.setpointOk ∧ attended.stringsOk ∧
    step (attended.withPending [.rampStep]) = .next attended :=
  ⟨attended_settingsSound, by decide, by decide, rfl⟩

/-! ## The commands, on small cases

The expected figures are those of the manual's examples, named in each docstring, or are worked by hand from the rule. -/

/-- The data record of the acceptance in flight. -/
def accepted (s : State) : Option ReplyData :=
  match s.link.reply with
  | some (.accept _ _ d) => some d
  | _ => none

/-- The reason and detail of the refusal in flight. -/
def refusal (s : State) : Option (RefusalReason × Nat) :=
  match s.link.reply with
  | some (.refuse _ _ r d) => some (r, d)
  | _ => none

/-- The newest log entry's kind, subject, origin and detail. -/
def newest (s : State) : Option (LogKind × Nat × Origin × Option Int) :=
  s.log.getLast?.map fun e => (e.kind, e.subject, e.origin, e.detail)

/-! ### Frames and the link -/

/-- R166: the CRC parameters, on the standard check string "123456789", whose value is known to be 0x29B1. -/
theorem test_crc : crc16 [0x31#8, 0x32#8, 0x33#8, 0x34#8, 0x35#8, 0x36#8, 0x37#8, 0x38#8, 0x39#8] = 0x29B1#16 := by
  decide +kernel

/-- R166: SYNC, LEN, KIND, TAG, PAYLOAD. -/
theorem test_frame : (frameBytes ⟨0x23#8, 7, [0x10#8, 0]⟩).take 6 = [0x5A#8, 4, 0x23#8, 7, 0x10#8, 0] := by decide +kernel

/-- R167, the table of the receiver: a LEN below 2 is a fragment; 0x5A inside a body is data. -/
theorem test_byte_received :
    (after (.byteReceived 1) (receiving attended .length)).link.status.fragment = true ∧
    (after (.byteReceived 0x5A#8) (receiving attended (.body 2 [2]))).link.receiver = .body 1 [2, 0x5A#8] := by decide

/-- R167: the gap timer in BODY ends the frame as a fragment. -/
theorem test_gap_timer :
    let t := after .receiverGapTimerExpiry (receiving attended (.body 2 [2]))
    t.link.status.fragment = true ∧ t.link.receiver = .hunt := by decide

/-- R167. -/
theorem test_bad_crc : (after .badCrcFrame (receiving attended (.check [2, 1, 0] (some 0)))).link.status.crc = true := by
  decide

/-- R168: a kind outside the catalogue leaves HOLD as it is. -/
theorem test_unknown_kind :
    let t := after (.unknownKind 0x0D#8 3 []) State.reset
    refusal t = some (.unknownKind, 0) ∧ t.link.status.unknown = true ∧ t.mode.mode = .hold := by decide

/-- The example of two requests sent too fast, R167 to R169: READ PLANT taken at a count of 312. -/
def burst : State :=
  let s := replying attended
  { s with link := { s.link with status := { s.link.status with good := 312 } } }

/-- The same example: READ ALARMS is held, READ LOG is discarded. -/
theorem test_frame_held :
    let t := after (.frameHeld 8 1 [1]) burst
    t.link.held = some ⟨8, 1, [1]⟩ ∧ t.link.status.good = 313 ∧ t.link.status.overrun = false := by decide

theorem test_overrun :
    let t := after (.overrun 9 2 [0, 0, 0, 0]) (after (.frameHeld 8 1 [1]) burst)
    t.link.held = some ⟨8, 1, [1]⟩ ∧ t.link.status.good = 314 ∧ t.link.status.overrun = true := by decide

/-- The same example: READ PLANT's reply ends and READ ALARMS is taken; the count stays 314. -/
theorem test_reply_sent :
    let t := after .replySent (after (.overrun 9 2 [0, 0, 0, 0]) (after (.frameHeld 8 1 [1]) burst))
    t.link.held = none ∧ t.link.status.good = 314 ∧ (accepted t).isSome = true := by decide

/-- The same example: READ LINK returns OVERRUN and a count of 315, and clears the flag. -/
theorem test_read_link :
    let s : State := { attended with link := { attended.link with status := ⟨false, false, true, false, 314⟩ } }
    let t := after (.readLink 1 []) s
    accepted t = some (.link ⟨false, false, true, false, 315⟩) ∧ t.link.status = ⟨false, false, false, false, 315⟩ := by
  decide

/-! ### The reading requests -/

/-- R170, R177: after reset. -/
theorem test_read_identity :
    accepted (after (.readIdentity 1 []) State.reset) = some (.identity "RZP48" 1 9600 0 .cold .defaults) := by decide

/-- R171: the figures after reset (R48, R67, R119, R165). -/
theorem test_read_plant :
    (match accepted (after (.readPlant 1 []) State.reset) with
    | some (.plant r) => decide (r.setpoint = 5400 ∧ r.remaining = 1200 ∧ r.minSoc = some 500 ∧ r.minSocC = some 0 ∧
        r.regime = .noSource ∧ r.reserve = true ∧ r.mode = .attended)
    | _ => false) = true := by decide

/-- R45, R48: string 1 after reset. -/
theorem test_read_string :
    (match accepted (after (.readString 1 [1]) State.reset) with
    | some (.string r) => decide (r.cRated = 200 ∧ r.inService = true ∧ r.string.cEff = 72000000 ∧ r.string.soc = 500)
    | _ => false) = true := by decide

/-- R78: position 0 is the shelf. -/
theorem test_read_module :
    (match accepted (after (.readModule 1 [0]) State.reset) with
    | some (.shelf r) => decide (r.enrolledMask = 4095 ∧ r.healthy = 0)
    | _ => false) = true := by decide

/-- R170, R106. -/
theorem test_read_sources :
    (match accepted (after (.readSources 1 []) State.reset) with
    | some (.sources r) => decide (r.source = .none ∧ r.changeover = .mainsFeed ∧ r.mainsBreakAux = true)
    | _ => false) = true := by decide

/-- The example of reading BUS_V while LVD_WARN arms. -/
theorem test_read_channel :
    let s := withReading (withWatch (withWatch attended wBusLow) wGenStartLow) cBusV 4684
    let s := arming s wLvdWarn 5
    accepted (after (.readChannel 1 [0]) s) = some (.channel ⟨0, some 4684, .valid, 0, none, 0,
      [⟨1, .isFalse, 0⟩, ⟨2, .isTrue, 0⟩, ⟨3, .isTrue, 0⟩, ⟨4, .arming, 5⟩, ⟨5, .isFalse, 0⟩, ⟨6, .isFalse, 0⟩,
       ⟨7, .isFalse, 0⟩]⟩) := by decide

/-- The example of a door opened and shut: DI6 reads active, changed, 41 210; the reply clears the flag. -/
theorem test_read_inputs :
    let s := after (.inputChange iDoor false) (atSecond attended 41210)
    let t := after (.readInputs 1 []) (atSecond s 45000)
    (match accepted t with | some (.inputs l) => decide (l[5]? = some ⟨true, true, 41210⟩) | _ => false) = true ∧
    (t.inputs.get iDoor).changed = false ∧ t.active iDoor = true := by decide

/-- R157: eight points from 1, and one from 41. -/
theorem test_read_alarms :
    (match accepted (after (.readAlarms 1 [1]) attended) with
     | some (.alarms l attn _ _ _) => decide (l.length = 8 ∧ attn = true)
     | _ => false) = true ∧
    (match accepted (after (.readAlarms 1 [41]) attended) with
    | some (.alarms l _ _ _ _) => decide (l.length = 1)
    | _ => false) = true := by decide

set_option maxRecDepth 8000 in
/-- The example of a reader that fell behind, on a log of three entries. -/
theorem test_read_log :
    let e := fun n : Nat => (⟨n, 0, .restart, 0, .part, none⟩ : LogEntry)
    let s : State := { attended with log := [e 40001, e 40002, e 40003] }
    accepted (after (.readLog 1 (bytes4 39487)) s) = some (.log 40001 40003 true [e 40001, e 40002, e 40003]) ∧
    accepted (after (.readLog 1 (bytes4 40004)) s) = some (.log 40001 40003 false []) := by decide

/-- R137: reading a DONE record marks it read. -/
theorem test_read_operation :
    let s := withOp attended sShelf { operation .done .rotate [] with unread := true }
    (match accepted (after (.readOperation 1 [3]) s) with
     | some (.operation r) => decide (r.record.map (·.unread) = some true)
     | _ => false) = true ∧
    (after (.readOperation 1 [3]) s).slotUnread sShelf = false := by decide

set_option maxRecDepth 8000 in
/-- R174, R60: float_v. -/
theorem test_read_setting :
    accepted (after (.readSetting 1 [2, 0]) attended) = some (.setting ⟨0x0200, 5400, 5000, 5600, 5400, 5400⟩) := by decide

/-! ### Settings, store, clock, relays -/

set_option maxRecDepth 8000 in
/-- R168, R173: rotation_interval_h takes 0 or 24 to 2160, so 1 is taken as 24, CLAMPED. -/
theorem test_write_setting :
    let t := after (.writeSetting 1 [3, 7, 0, 1]) attended
    accepted t = some (.written true 0x0307 24) ∧ t.setting 0x0307 = 24 := by decide

/-- The worked case of compensation: k_tc 720, T_comp 350, FLOAT, float_v written at 5400 again and at 5300. -/
theorem test_write_setting_setpoint :
    let s : State := { attended with charge := { RegimeRec.start with regime := .float, tComp := 350 } }
    (after (.writeSetting 1 (bytes2 0x0200 ++ bytes2 5300)) s).charge.setpoint = 5228 ∧
    formedSetpoint [] { RegimeRec.start with regime := .absorb, tComp := -50 } = 5856 ∧
    formedSetpoint [] { RegimeRec.start with regime := .equalize, tComp := 0 } = 5880 ∧
    formedSetpoint [] { RegimeRec.start with regime := .bulk, tComp := 313 } = 5595 ∧
    formedSetpoint [] { RegimeRec.start with regime := .float, tComp := 600 } = 5160 := by decide

/-- R175. -/
theorem test_store_settings :
    (after (.storeSettings 1 []) attended).storePending = true ∧
    refusal (after (.storeSettings 1 []) { attended with storePending := true }) = some (.busy, 0) := by decide

/-- R118: minute 1439 of day 6, and a minute too many. -/
theorem test_set_clock :
    (after (.setClock 1 [6, 5, 0x9F#8]) attended).clock = some ⟨6, 1439, 0⟩ ∧
    refusal (after (.setClock 1 [6, 5, 0xA0#8]) attended) = some (.range, 0) := by decide

/-- The example of the host lighting a site lamp. -/
theorem test_relays_on :
    let s := atSecond attended 52003
    refusal (after (.relaysOn 1 [0x10#8, 1]) s) = some (.notOwner, 1) ∧
    (after (.relaysOn 1 [0x10#8, 0]) s).relays.get rAux1 = ⟨true, 52003⟩ := by decide

/-- The same example, later. -/
theorem test_relays_off :
    let s : State := { atSecond attended 52700 with
      relays := (attended.relays.set rAux1 ⟨true, 52003⟩).set rAux2 ⟨true, 30012⟩ }
    let t := after (.relaysOff 1 [0x30#8, 0]) s
    t.relays.get rAux1 = ⟨false, 52700⟩ ∧ t.relays.get rAux2 = ⟨false, 52700⟩ := by decide

/-! ### Operations -/

/-- The example of a host run, argument 5 taken as 10 with CLAMPED; and that of an equalize, hours 0 taken as 4, at a
T_comp of 280: the setpoint goes from 5378 to 5738. -/
theorem test_begin :
    (let t := after (.beginRequest 1 [0, 1, 0, 5]) onGrid
     (match accepted t with | some (.begun c l _) => decide (c = true ∧ l = [10]) | _ => false) = true ∧ t.gen.state = .prestart) ∧
    (let s : State := atSecond { coolPlant with charge := { coolPlant.charge with tComp := 280, setpoint := 5378 } } 500000
     let t := after (.beginRequest 1 [1, 3, 0, 0]) s
     t.charge.setpoint = 5738 ∧ t.charge.eqTimer = some ⟨500000000, 514400000⟩ ∧
     (t.slots.get sCharge).map (·.args) = some [4]) := by decide

/-- The example of a test, its arguments 0 taken as 180, 30 and 4700, from 5400; and the worked case of a rotation:
outgoing position 1, incoming position 5, which starts. -/
theorem test_begin_test_and_rotation :
    (let t := after (.beginRequest 1 [2, 4, 0, 0, 0, 0, 0, 0]) coolPlant
     (t.slots.get sTest).map (·.args) = some [180, 30, 4700] ∧ t.charge.regime = .test ∧ t.test.s0 = 5400 ∧
     newest t = some (.regime, 5, .part, some 10)) ∧
    (let t := after (.beginRequest 1 [3, 5]) (atSecond coolPlant 200000)
     t.moduleState 4 = .starting ∧ (t.shelf.modules.get 4).startTimer = some ⟨200000000, 200010000⟩ ∧
     t.shelf.rotation.map (fun r => (r.outgoing, r.incoming)) = some (0, 4)) := by decide

/-- R65, R64: an equalize ended by the host; R136: an empty slot. -/
theorem test_end :
    (let s : State := withOp { fullPlant with charge := { fullPlant.charge with regime := .equalize, eqTimer := some timer } }
       sCharge (operation .running .equalize [4])
     let t := after (.endRequest 1 [1]) s
     t.charge.eqHoldoff = 86400 ∧ t.charge.regime = .float ∧ newest t = some (.opEnd, 1, .host, some 200)) ∧
    refusal (after (.endRequest 1 [1]) attended) = some (.state, 1) := by decide

/-! ### Alarms -/

/-- The example of a grid failure seen late: bit 21 makes GRID_FAIL HELD. -/
theorem test_acknowledge :
    let t := after (.acknowledge 1 [0, 0, 0, 0x20#8, 0, 0]) (atSecond attended 120000)
    (t.points.get pGridFail).state = .held ∧ newest t = some (.alarmHeld, 22, .host, none) := by decide

/-- The example's proof of the smoke alarm: PROVE 33 raises SMOKE. -/
theorem test_prove :
    let t := after (.prove 1 [33]) (atSecond attended 132000)
    (t.points.get pSmoke).state = .raised ∧ (t.points.get pSmoke).proof = true ∧ (t.points.get pSmoke).count = 1 ∧
    newest t = some (.alarmRaised, 33, .prove, some 0) := by decide

/-- The example's CLEAR of bit 32 makes SMOKE NORMAL. -/
theorem test_clear :
    let s := after .replySent (after (.prove 1 [33]) attended)
    let t := after (.clearPoints 1 [0, 1, 0, 0, 0, 0]) s
    (t.points.get pSmoke).state = .normal ∧ (t.points.get pSmoke).proof = false ∧
    newest t = some (.alarmNormal, 33, .host, none) := by decide

/-- The example's escalation at 114 400. -/
theorem test_escalation :
    let s : State := { attended with relaysFormed := true }
    let t := after (.escalationTimerExpiry pGridFail) s
    t.effectiveSeverity pGridFail = .critical ∧ t.relayOn rAlmCrit = false ∧ t.ms = 14400000 := by decide

/-! ### Contactors -/

/-- R120, R129: an OPEN claim on T5 opens the load and begins the check. -/
theorem test_contactor :
    let t := after (.contactor 1 [5, 1]) attended
    t.relayOn (rTarget tNeld) = true ∧ (t.targets.get tNeld).decider = .host ∧
    (t.targets.get tNeld).check = .window ∧ (t.targets.get tNeld).timer = some ⟨0, 500⟩ := by decide

/-- The example of a door opened and shut: HAND active claims every target, and CONTACTOR is LOCKED. -/
theorem test_input_change :
    let t := after (.inputChange iHand true) (atSecond attended 41275)
    (∀ T : Fin 5, (t.targets.get T).decider = .hand) ∧
    refusal (after (.contactor 1 [5, 1]) t) = some (.locked, 0) := by decide

/-- The same example: a bounce of 20 ms is no input change. -/
theorem test_contact_sample :
    let s : State := { attended with inputs := attended.inputs.modify iDoor fun r => { r with interval := some 19 } }
    let t := after (.contactSample iDoor true) s
    (t.inputs.get iDoor).interval = none ∧ (t.inputs.get iDoor).changed = false := by decide

/-- The example of a descent: the window of T5 expires and the auxiliary input agrees. -/
theorem test_feedback_check :
    let t := after (.feedbackCheckTimerExpiry tNeld) attended
    (t.targets.get tNeld).check = .agree ∧ (t.targets.get tNeld).timer = none := by decide

/-! ### Strings -/

/-- The example of a string recharged by a maintainer. -/
theorem test_sync_string :
    let s : State := { atSecond attended 88400 with
      strings := attended.strings.set 2 { StringRec.start with q := 41760000, u := 6480000, soc := 580, socC := 490 } }
    let t := after (.syncString 1 [3]) s
    (t.strings.get 2).q = 72000000 ∧ (t.strings.get 2).u = 0 ∧ (t.strings.get 2).soc = 1000 ∧
    (t.strings.get 2).full = true ∧ newest t = some (.sync, 3, .host, some 580) := by decide

/-- The worked case of one string, at its start. -/
def workedString : State :=
  { attended with
    strings := attended.strings.set 0
      { StringRec.start with
        tCap := 300, tSource := .string, cEff := 74109375, q := 55000000, u := 3000000, soc := 742, socC := 701
        phase := .discharging, lastI := some (-1250) } }

/-- The readings of the worked case: 30.0 °C and the string's current. -/
def workedRaw (i : Int) : Table Int 20 := ((raw0.set (cStrT 0) 300).set (cStrI 0) i).set cBusV 5000

/-- The worked case of one string: its first scan, −1250. -/
theorem test_scan_string :
    let r := (after (.scanCompletion (workedRaw (-1250)) scanBlocks) workedString).strings.get 0
    r.cEff = 74109375 ∧ r.q = 54998750 ∧ r.u = 3000000 ∧ r.soc = 742 ∧ r.socC = 701 ∧ r.lastI = some (-1250) := by
  decide +kernel

/-- The changes of charge of its other scans, +3000 and −4000; and the example of LVD_WARN: the watch arms at 4698, and
holds at FAULTY, and is TRUE from 9 at 4679. -/
theorem test_scan_figures :
    chargeChange [] 0 3000 = 2879 ∧ chargeChange [] 0 (-4000) = -4399 ∧
    evalWatch (watchSpec [] wLvdWarn) ⟨.isFalse, 0⟩ 4698 = ⟨.arming, 0⟩ ∧
    evalWatch (watchSpec [] wLvdWarn) ⟨.arming, 1⟩ 4702 = ⟨.isFalse, 0⟩ ∧
    evalWatch (watchSpec [] wLvdWarn) ⟨.arming, 9⟩ 4679 = ⟨.isTrue, 0⟩ ∧
    ringRate ([312, 314, 317, 320, 324, 329, 333, 338, 342, 347, 351].map some) = some 39 ∧
    convert cBusV 2999 = (none, .faulty) ∧ convert cBusV 7000 = (some 6500, .overrange) := by decide

/-! ### The shelf -/

/-- The worked case of the required count, with strings 1 and 2 in service in BULK and six modules enrolled. -/
theorem test_poll_cycle :
    let s := withSetting (withSetting (withSetting attended 0x0120 0) 0x0130 0) 0x0309 0x003F
    let s := withReading { s with charge := { RegimeRec.start with regime := .bulk } } cLoadI 4200
    let s := (indices 12).foldl
      (fun s p => withModule s p (module (if p.val < 2 then .online else if p.val < 6 then .standby else .notFitted) 0)) s
    let t := after .pollCycleCompletion s
    t.shelf.iDemand = 8200 ∧ t.shelf.nReqUnclamped = 5 ∧ t.shelf.nReq = 5 ∧ t.energizedCount = 3 ∧
    (t.points.get pRedundancyLost).raw = false := by decide

/-- The worked case of dividing a limit: 7687 over positions 1, 3, 4, 7 and 9. -/
theorem test_divide_limit :
    let states : List ModuleState := [.online, .standby, .online, .starting, .fault, .lost, .online, .standby, .online]
    let s := withSetting { attended with shelf := { Shelf.start with lTot := 7687 } } 0x0309 0x01FF
    let s := (indices 12).foldl (fun s p => withModule s p (module (states.getD p.val .notFitted) 0)) s
    ([0, 1, 2, 3, 4, 5, 6, 7, 8, 9] : List (Fin 12)).map (s.planFor false) =
      [.on 1538, .off, .on 1538, .on 1537, .off, .query, .on 1537, .off, .on 1537, .silent] := by decide

/-- R73, the table of replies: an ONLINE module that answers OFF has failed with code 254. -/
theorem test_module_reply :
    let t := after (.moduleReply 0 ⟨.off, 0, 0, 250, 0⟩) (shelfAt 2)
    t.moduleState 0 = .fault ∧ (t.shelf.modules.get 0).fault = 254 ∧ t.moduleState 2 = .starting := by decide

/-- R72: the third miss makes a position LOST. -/
theorem test_module_miss :
    let t := after (.moduleMiss 5) (withModule (shelfAt 2) 5 { module .standby 5 with miss := 2 })
    t.moduleState 5 = .lost ∧ (t.shelf.modules.get 5).miss = 3 := by decide

/-- The worked case of a rotation: a start timer's expiry is fault 255. -/
theorem test_start_timer :
    let t := after (.startTimerExpiry 4) (withModule coolPlant 4 { module .starting 0 with startTimer := some timer })
    t.moduleState 4 = .fault ∧ (t.shelf.modules.get 4).fault = 255 := by decide

/-- The worked case of a walk-in onto the generator: steps 1, 2 and 13 of 8200, and the step interval of 1875 ms. -/
theorem test_ramp_step :
    let s := fun k : Nat => { attended with shelf := { Shelf.start with ramp := ⟨.walkin, 0, 8200, k, 1875, some ⟨0, 1875⟩⟩ } }
    (after .rampStep (s 0)).shelf.ramp.value = 512 ∧ (after .rampStep (s 1)).shelf.ramp.value = 1025 ∧
    (after .rampStep (s 12)).shelf.ramp.value = 6662 ∧
    (after .rampStep (s 0)).shelf.ramp.timer = some ⟨1875, 3750⟩ ∧ (after .rampStep (s 15)).shelf.ramp.timer = none := by
  decide

/-- R76: a position enrolled with its run minutes cleared. -/
theorem test_enrol :
    let s := withModule (withSetting attended 0x0309 0x0FFE) 0 (module .notFitted 500)
    let t := after (.enrol 1 [1, 1]) s
    t.moduleState 0 = .unpolled ∧ t.runMinutes 0 = 0 ∧ t.setting 0x0309 = 4095 := by decide

/-- R77: a position retired owes an off command. -/
theorem test_retire :
    let t := after (.retire 1 [1]) attended
    t.moduleState 0 = .notFitted ∧ (t.shelf.modules.get 0).owed = true ∧ t.setting 0x0309 = 0x0FFE := by decide

/-- R81: a written min_online holds a RETIRE from the next poll cycle completion on. -/
theorem test_figures_in_force :
    let s := after (.writeSetting 1 [3, 3, 0, 3]) (shelfAt 3)
    let t := after .pollCycleCompletion s
    s.setting 0x0303 = 3 ∧ s.shelf.inForce.minOnline = 2 ∧ t.shelf.inForce.minOnline = 3 ∧
    (after (.retire 1 [1]) { s with link := State.reset.link }).moduleState 0 = .notFitted ∧
    refusal (after (.retire 1 [1]) { t with link := State.reset.link }) = some (.state, 2) := by decide +kernel

/-- R116, R117: a written fuel_reserve reaches an input change of FUEL_LOW from the next evaluation on. -/
theorem test_fuel_levels_in_force :
    let s : State := { attended with sched := { Scheduler.start with estimate := 30000, evaluated := true } }
    let s := after (.inputChange iFuelLow true) s
    let s := { after (.writeSetting 1 [5, 0x0C, 0x9C, 0x40]) s with link := State.reset.link }
    s.setting 0x050C = 40000 ∧ (after (.inputChange iFuelLow false) s).sched.reserve = false ∧
    (after (.inputChange iFuelLow false) (after .schedulerEvaluation s)).sched.reserve = true := by decide +kernel

/-! ### The engine -/

/-- The worked start, from t = 0 to t = 28. -/
theorem test_prestart_timer :
    let t := after .prestartTimerExpiry (running .prestart)
    t.gen.state = .crank ∧ t.gen.attempt = 1 ∧ t.gen.timer = some ⟨5000, 13000⟩ ∧ t.relayOn rCrank = true := by decide

theorem test_crank_timer :
    let s : State := { running .crank with gen := { (running .crank).gen with timer := some ⟨5000, 13000⟩ } }
    let t := after .crankTimerExpiry s
    t.gen.state = .rest ∧ t.gen.timer = some ⟨13000, 28000⟩ ∧ t.relayOn rCrank = false := by decide

/-- The same case's third failure: LOCKOUT, GEN_FAIL_START, released 14 400 s later. -/
theorem test_crank_timer_last :
    let s : State := { running .crank with gen := { (running .crank).gen with attempt := 3, timer := some ⟨51000, 59000⟩ } }
    let t := after .crankTimerExpiry s
    t.gen.state = .lockout ∧ (t.points.get pGenFailStart).state = .latched ∧ t.gen.retry = some ⟨59000, 14459000⟩ := by
  decide

theorem test_rest_timer :
    let s : State := { running .rest with gen := { (running .rest).gen with timer := some ⟨13000, 28000⟩ } }
    let t := after .restTimerExpiry s
    t.gen.state = .crank ∧ t.gen.attempt = 2 := by decide

/-- The worked start at t = 31.4: GEN_RUNNING begins the warm-up, which lasts to t = 151.4. -/
theorem test_running_detected :
    let s : State := { running .crank with ms := 31400 }
    (after (.inputChange iGenRunning true) s).gen.timer = some ⟨31400, 151400⟩ := by decide

/-- The worked start at t = 151.4: the transfer. -/
theorem test_warmup_timer :
    let t := after .warmupTimerExpiry (withWatch (withWatch (turning .warmup) wGenV) wGenF)
    t.gen.state = .onloadWalkin ∧ t.relayOn rMainsBreak = true ∧ t.relayOn rGenMake = false ∧ t.charge.regime = .bulk := by
  decide

/-- R97: the check window fails the warm-up. -/
theorem test_check_window :
    let s : State := { turning .warmup with gen := { (turning .warmup).gen with timer := none, window := some timer } }
    let t := after .checkWindowExpiry s
    t.gen.state = .rundown ∧ t.relayOn rFuelRun = false ∧ (t.points.get pGenFailRun).state = .latched := by decide

/-- The worked start at t = 152.4: the generator feeds. -/
theorem test_changeover_gap :
    let s : State := { withWatch (withWatch (turning .onloadWalkin) wGenV) wGenF with mains := ⟨false, .none, .toGen, some timer⟩ }
    let t := after .changeoverGapTimerExpiry s
    t.relayOn rGenMake = true ∧ t.mains.source = .generator ∧ t.shelf.ramp.kind = .walkin := by decide

/-- R99: the exercise ends into its cool-down. -/
theorem test_exercise_timer :
    let s : State := { turning .idling with gen := { (turning .idling).gen with exercise := some timer } }
    (after .exerciseTimerExpiry s).gen.state = .cooldown := by decide

/-- The worked start at t = 4911.9. -/
theorem test_cooldown_timer :
    let t := after .cooldownTimerExpiry (turning .cooldown)
    t.gen.state = .rundown ∧ t.relayOn rFuelRun = false := by decide

/-- R102: an engine that runs on. -/
theorem test_rundown_timer :
    let t := after .rundownTimerExpiry (turning .rundown)
    t.gen.state = .lockout ∧ (t.points.get pGenFailStop).state = .latched := by decide

/-- R104: the retry releases a start lockout. -/
theorem test_retry_timer :
    let s : State := { onGrid with gen := { Generator.start with state := .lockout, retry := some timer } }
    let t := after .retryTimerExpiry (withPoint s pGenFailStart fun p => { p with state := .latched })
    t.gen.state = .off ∧ (t.points.get pGenFailStart).state = .normal := by decide

/-! ### Run decisions and seconds -/

/-- The example of a night under the quiet window: GATED at 22:41, STARTED at 03:12. -/
theorem test_scheduler :
    let s : State := { attended with
      strings := Table.fill 4 { StringRec.start with soc := 600, socC := 500, sinceFull := 0 }
      sched := { Scheduler.start with estimate := 35000, reserve := false }
      clock := some ⟨2, 1361, 0⟩ }
    (after .schedulerEvaluation s).sched.outcome = .gated .lowCharge .quiet ∧
    (after .schedulerEvaluation { s with
      strings := Table.fill 4 { StringRec.start with soc := 600, socC := 350, sinceFull := 0 }
      clock := some ⟨3, 192, 0⟩ }).sched.outcome = .started .lowCharge := by decide

/-- R118: the clock turns the week; R98: a second on load. -/
theorem test_second_tick :
    let s : State := { turning .onloadUnloading with clock := some ⟨6, 1439, 59⟩ }
    let t := after (.secondTick tickBlocks) s
    t.clock = some ⟨0, 0, 0⟩ ∧ t.gen.onload = 1 ∧ t.ms = 1000 := by decide

/-- R176: the record is written whole. -/
theorem test_hourly_write :
    let t := after .hourlyPersistenceWrite attended
    t.record.items.remaining = 1200 ∧ t.record.incomplete = false ∧ t.ms = 3600000 := by decide +kernel

/-! ### The regime, the mode and the test -/

/-- The example of a night's outage: the absorb timer's other end: FLOAT, ABSORB_TIMEOUT, detail 1. -/
theorem test_absorb_timer :
    let s : State := { onGrid with charge := { RegimeRec.start with regime := .absorb, absorb := some timer } }
    let t := after .absorbTimerExpiry s
    t.charge.regime = .float ∧ newest t = some (.alarmRaised, 29, .part, some 1) := by decide

/-- R65: an equalize of 4 hours that ran its course. -/
theorem test_equalize_timer :
    let s : State := withOp { fullPlant with charge := { fullPlant.charge with regime := .equalize, eqTimer := some timer } }
      sCharge (operation .running .equalize [4])
    (after .equalizeTimerExpiry s).slots.get sCharge =
      some { operation .done .equalize [4] with
        termination := some .completed, cause := some .none, doneStamp := 5, result := some (.equalize 240), unread := true } := by
  decide

/-- The example of host silence and the AUX relays: aux_hold_1 OFF, aux_hold_2 ON, at 60 600. -/
theorem test_supervision_timer :
    let s := withSetting (withSetting attended 0x0820 1) 0x0821 2
    let s : State := { s with
      relays := (s.relays.set rAux1 ⟨true, 52003⟩).set rAux2 ⟨false, 52700⟩
      mode := { s.mode with timer := some ⟨60000000, 60600000⟩ } }
    let t := after .supervisionTimerExpiry s
    t.mode.mode = .hold ∧ t.relays.get rAux1 = ⟨false, 60600⟩ ∧ t.relays.get rAux2 = ⟨true, 60600⟩ := by decide

/-- The example of a test: 5400 − 50 k, 5350 at step 1 and 4600 at step 16, where DISCHARGING begins. -/
theorem test_test_step :
    let s := fun k : Nat => { testing .running k with test := { (testing .running k).test with s0 := 5400, testV := 4600 } }
    (after .testStepTimerExpiry (s 0)).test.setpoint = 5350 ∧ (after .testStepTimerExpiry (s 15)).test.setpoint = 4600 ∧
    (after .testStepTimerExpiry (s 15)).test.phase = .discharging := by decide

/-- R143: a minute of DISCHARGING. -/
theorem test_test_minute : (after .testMinuteTimerExpiry (testing .running 16)).test.minutes = 1 := by decide

/-- The example's delivered charge of 6 127 500 cAs is 170 in 0.1 Ah; 2451 discharge scans are 40 minutes. -/
theorem test_test_time_limit :
    let s := testing .running 16
    let s : State := { s with test := { s.test with
      phase := .discharging, members := [⟨0, 72000000, 6127500, 2451, 0, some 4982⟩] } }
    ((after .testTimeLimitExpiry s).strings.get 0).test = some ⟨170, some 4982, 40, .completed, 5⟩ := by decide

/-- R144: a test ended in LOWERING shows 0 in every figure, its last voltage too. -/
theorem test_test_lowering_result :
    let t := after (.endRequest 1 [2]) (testing .running 3)
    (t.strings.get 0).test = some ⟨0, some 0, 0, .stopped, 0⟩ ∧ t.charge.regime = .bulk := by decide

/-- R51, R52: an engine that idles when the grid is lost goes on load at the same moment; the regime is NO_SOURCE and
then BULK or FLOAT again, with its two entries. -/
theorem test_presence_flicker :
    let s := withWatch (withWatch (turning .idling) wGenV) wGenF
    let s := withOp { s with
      mains := ⟨true, .grid, .mainsFeed, none⟩
      charge := { fullPlant.charge with absorb := none } } sGenerator (operation .running .exercise [15])
    let t := after (.scanCompletion ((raw0.set cGenV 2300).set cGenF 5000) scanBlocks) s
    t.gen.state = .onloadWalkin ∧ t.charge.present = true ∧
    (t.log.filter fun e => e.kind == .regime).map (fun e => (e.subject, e.detail)) = [(0, some 1), (1, some 2)] := by
  decide +kernel

/-! ### Store and restarts -/

/-- R175: the stored copy is written with its checksum. -/
theorem test_store_completion :
    let s : State := { withSetting attended 0x0307 24 with storePending := true }
    let t := after .storeCompletion s
    t.loaded = [(0x0307, 24)] ∧ t.stored.values = [(0x0307, 24)] ∧ t.storePending = false := by decide +kernel

/-- R177: a cold restart of a healthy plant whose images fail leaves the state after reset. -/
theorem test_cold_restart :
    after (.coldRestart Contacts.healthy ⟨false, false⟩) { attended with powered := false } = State.reset := by
  decide +kernel

/-- R178: a warm restart keeps the log and the clock and listens at the new rate. -/
theorem test_warm_restart :
    let s : State := { attended with clock := some ⟨2, 600, 0⟩ }
    let t := after (.warmRestart Contacts.healthy ⟨true, true⟩) s
    t.clock = some ⟨2, 600, 0⟩ ∧ Straps.rate t.link.straps = 57600 ∧ t.mode.mode = .hold := by decide +kernel

/-- R158: an acknowledged condition found present at a warm restart is raised again. -/
theorem test_warm_restart_held :
    let s := withPoint attended pGridFail fun p => { p with state := .held, count := 1 }
    let t := after (.warmRestart Contacts.healthy ⟨false, false⟩) s
    (t.points.get pGridFail).state = .raised ∧ (t.points.get pGridFail).count = 1 := by decide +kernel

/-- R122: a string isolated for heat that is unenrolled keeps its drive and its relay. -/
theorem test_unenrolled_hot_string :
    let t := after (.writeSetting 1 [1, 0, 0, 0]) hotString
    (t.targets.get 0).thermal = false ∧ (t.targets.get 0).drive = .opened ∧ t.relays.get (rTarget 0) = ⟨true, 0⟩ := by
  decide +kernel

/-- R172: RESTART is refused BUSY while a store is pending. -/
theorem test_restart_request :
    (after (.restartRequest 1 []) attended).link.restart = .accepting ∧
    refusal (after (.restartRequest 1 []) { attended with storePending := true }) = some (.busy, 0) := by decide

/-- R175: power lost during a store leaves the copy incomplete. -/
theorem test_power_loss :
    let t := after (.powerLoss false) { attended with storePending := true }
    t.stored.incomplete = true ∧ t.powered = false := by decide

end Sys2Proof.Tests
end

/-! SUPPORT. The contact inputs and the AUX relays over the host link: READ INPUTS (R22), and RELAYS ON and RELAYS OFF
(R26). Both obligations go through the request's own rule on the state that the frame's arrival leaves. -/

namespace Sys2Proof.Machine

/-! ## What an arrival leaves as it is (R160, R162) -/

/-- R147: a hand of a condition leaves what no consequence of a command changes. -/
theorem handCondition_still (p : Fin 41) (raw : Bool) (d : Int) (w : Work) :
    (handCondition p raw d w).still = w.still :=
  (still_kept w.still).handCondition_of_raw p raw d rfl rfl

section
variable {r : Fin 14} (h1 : r ≠ rAlmCrit) (h2 : r ≠ rAlmMaj) (h3 : r ≠ rAlmMin)
include h1 h2 h3

theorem conditionRose_relayOn (p : Fin 41) (o : Origin) (d : Option Int) (w : Work) :
    (conditionRose p o d w).relayOn r = w.relayOn r := by
  unfold conditionRose
  dsimp only
  split
  · rfl
  · split
    · exact movePoint_relayOn p .raised _ r h1 h2 h3
    · exact movePoint_relayOn p .raised _ r h1 h2 h3
    · rfl
    · rfl

theorem conditionFell_relayOn (p : Fin 41) (d : Option Int) (w : Work) :
    (conditionFell p d w).relayOn r = w.relayOn r := by
  unfold conditionFell
  split
  · rfl
  · split
    · split
      · exact movePoint_relayOn p .latched _ r h1 h2 h3
      · exact movePoint_relayOn p .normal _ r h1 h2 h3
    · exact movePoint_relayOn p .normal _ r h1 h2 h3
    · rfl
    · rfl

/-- R147, R154: a hand of a condition drives the severity relays alone. -/
theorem handCondition_relayOn (p : Fin 41) (raw : Bool) (d : Int) (w : Work) :
    (handCondition p raw d w).relayOn r = w.relayOn r := by
  unfold handCondition
  dsimp only
  split
  · rfl
  · split
    · rfl
    · split
      · exact conditionRose_relayOn h1 h2 h3 p .part (some d) _
      · exact conditionFell_relayOn h1 h2 h3 p (some d) _

theorem frameArrival_relayOn (w : Work) : (frameArrival w).relayOn r = w.relayOn r := by
  unfold frameArrival
  split
  · exact handCondition_relayOn h1 h2 h3 pHostSilent false 0 (changeMode .attended .host w)
  · rfl

/-- R162: a frame that is heard drives no relay but those of the severities. -/
theorem heard_relayOn (s : State) : s.heard.relayOn r = s.relayOn r :=
  frameArrival_relayOn h1 h2 h3 (countFrame ⟨s, []⟩)

end

/-- R160, R162: an arrival writes the mode and its timer beside what a hand of a condition may change. -/
theorem frameArrival_still (w : Work) : { (frameArrival w).still with mode := w.mode } = w.still := by
  unfold frameArrival
  split
  · exact congrArg (fun t : State => { t with mode := w.mode })
      (handCondition_still pHostSilent false 0 (changeMode .attended .host w))
  · rfl

@[simp] theorem frameArrival_inputs (w : Work) : (frameArrival w).inputs = w.inputs := by
  have := congrArg State.inputs (frameArrival_still w); exact this

@[simp] theorem frameArrival_ms (w : Work) : (frameArrival w).ms = w.ms := by
  have := congrArg State.ms (frameArrival_still w); exact this

@[simp] theorem heard_inputs (s : State) : s.heard.inputs = s.inputs := frameArrival_inputs (countFrame ⟨s, []⟩)

@[simp] theorem heard_siteSeconds (s : State) : s.heard.siteSeconds = s.siteSeconds := by
  have hms : s.heard.ms = s.ms := frameArrival_ms (countFrame ⟨s, []⟩)
  simp [State.siteSeconds, hms]

/-- A refused request: its refusal is in flight, and the state is what the arrival left. -/
theorem exec_refused (f : Frame) (s : State) (hr : s.ready = true) (hk : kindKnown f.kind = true) (r : RefusalReason)
    (d : Nat) (h : request f.kind f.payload ⟨s.heard, []⟩ = refused r ⟨s.heard, []⟩ d) :
    exec f.command s = .next (s.heard.answered f.kind f.tag (.refuse r d)) :=
  exec_known_calm f s hr hk s.heard _ h

/-! ## READ INPUTS (R22) -/

theorem readInputs_command (tag : Byte) (p : List Byte) : (⟨0x07#8, tag, p⟩ : Frame).command = .readInputs tag p := rfl

theorem request_readInputs (p : List Byte) (w : Work) : request 0x07#8 p w = reqReadInputs p w := rfl

theorem reqReadInputs_refused {p : List Byte} (hp : p ≠ []) (w : Work) : reqReadInputs p w = refused .badLength w := by
  simp [reqReadInputs, hp]

theorem reqReadInputs_nil (w : Work) : reqReadInputs [] w = (clearChanged w, .accept (.inputs w.inputEntries)) := rfl

/-- The rows of a table are its reads in index order. -/
theorem rows_eq_map_get {α : Type} {n : Nat} (t : Table α n) : t.rows = (indices n).map t.get := by
  apply List.ext_getElem
  · simp [indices, t.len]
  · intro k _ _
    simp [indices, Table.get_rows]

theorem inputEntries_eq (s : State) : s.inputEntries =
    (indices 16).map fun i => ⟨(s.inputs.get i).active, (s.inputs.get i).changed, (s.inputs.get i).stamp⟩ := by
  rw [State.inputEntries, rows_eq_map_get, List.map_map]
  rfl

/-- Settles O8: the arrival leaves the inputs, the reply has their records, and only the flags are written after it. -/
theorem inputsReadAndCleared : Obligations.InputsReadAndCleared := by
  unfold Obligations.InputsReadAndCleared
  intro s tag p hr
  simp only [← readInputs_command]
  constructor
  · intro hp
    exact exec_refused _ s hr rfl _ _ ((request_readInputs p _).trans (reqReadInputs_refused hp _))
  · have hrun := exec_known_calm ⟨0x07#8, tag, []⟩ s hr rfl _ _ ((request_readInputs [] _).trans (reqReadInputs_nil _))
    refine ⟨_, hrun, ?_, ?_, ?_⟩
    · intro i
      simp [State.answered]
    · simp only [State.answered, Answer.reply, inputEntries_eq, heard_inputs]
    · simp only [State.answered]
      rw [← heard_inputs]

/-! ## The mask of RELAYS ON and RELAYS OFF (R26) -/

theorem maskNames_eq_testBit (m k : Nat) : maskNames m k = m.testBit k := Nat.testBit_eq_decide_div_mod_eq.symm

theorem wordAt_bytes2 {m : Nat} (hm : m < 65536) : wordAt (bytes2 m) 0 = m := by
  have hbytes : wordAt (bytes2 m) 0 = m / 256 % 256 * 256 + m % 256 := rfl
  omega

/-- Bits 14 and 15 are those that a mask of two bytes has from 16384 on. -/
theorem maskNames_noRelay {m : Nat} (hm : m < 65536) :
    (maskNames m 14 || maskNames m 15) = decide (16384 ≤ m) := by
  simp only [maskNames, ← Bool.decide_or, decide_eq_decide]
  omega

theorem lowestOwned_eq_none {m : Nat} (h : m % 4096 = 0) : lowestOwned m = none := by
  simp only [lowestOwned, Option.map_eq_none_iff, List.find?_eq_none, List.mem_range]
  intro k hk
  have hbit : (m % 2 ^ 12).testBit k = m.testBit k := by rw [Nat.testBit_mod_two_pow, decide_eq_true hk, Bool.true_and]
  have hlow : m % 2 ^ 12 = 0 := h
  rw [maskNames_eq_testBit, ← hbit, hlow, Nat.zero_testBit]
  exact Bool.false_ne_true

theorem lowestOwned_eq_some {m k : Nat} (hk : k < 12) (hb : maskNames m k = true)
    (hl : ∀ j, j < k → maskNames m j = false) : lowestOwned m = some (k + 1) := by
  have hfind : (List.range 12).find? (fun k => maskNames m k) = some k := by
    rw [List.find?_range_eq_some]
    exact ⟨hb, List.mem_range.mpr hk, fun j hj => by simp [hl j hj]⟩
  simp [lowestOwned, hfind]

/-! ## The drive of the AUX relays (R25, R26) -/

/-- R25: a relay's record after a drive is new only where the relay driven had the other drive. -/
theorem setRelay_get (q r : Fin 14) (on : Bool) (w : Work) : (setRelay q on w).relays.get r =
    if r = q ∧ w.relayOn r ≠ on then ⟨on, w.siteSeconds⟩ else w.relays.get r := by
  rw [setRelay_relays]
  by_cases hq : r = q
  · subst hq
    by_cases hon : w.relayOn r = on <;> simp [hon]
  · split <;> simp [hq]

theorem setRelay_frame (q : Fin 14) (on : Bool) (w : Work) :
    setRelay q on w = { w with relays := (setRelay q on w).relays } := by
  unfold setRelay
  split <;> rfl

theorem driveAux_frame (m : Nat) (on : Bool) (w : Work) :
    driveAux m on w = { w with relays := (driveAux m on w).relays } := by
  unfold driveAux onlyIf
  split <;> split
  · rw [setRelay_frame, setRelay_frame rAux1]
  · exact setRelay_frame rAux2 on w
  · exact setRelay_frame rAux1 on w
  · rfl

theorem onlyIf_setRelay_get (c : Bool) (q r : Fin 14) (on : Bool) (w : Work) :
    (onlyIf c (setRelay q on) w).relays.get r =
      if (r = q ∧ c = true) ∧ w.relayOn r ≠ on then ⟨on, w.siteSeconds⟩ else w.relays.get r := by
  unfold onlyIf
  cases c <;> simp [setRelay_get]

@[simp] theorem onlyIf_setRelay_siteSeconds (c : Bool) (q : Fin 14) (on : Bool) (w : Work) :
    (onlyIf c (setRelay q on) w).siteSeconds = w.siteSeconds := by
  unfold onlyIf
  cases c <;> simp [State.siteSeconds]

/-- R26: an AUX relay that the mask names and that has the other drive takes the new one, with its stamp. -/
theorem driveAux_get (m : Nat) (on : Bool) (w : Work) (r : Fin 14) : (driveAux m on w).relays.get r =
    if ((r = rAux1 ∧ maskNames m 12 = true) ∨ (r = rAux2 ∧ maskNames m 13 = true)) ∧ w.relayOn r ≠ on
    then ⟨on, w.siteSeconds⟩ else w.relays.get r := by
  have hne : rAux2 ≠ rAux1 := by decide
  unfold driveAux
  rw [onlyIf_setRelay_get, onlyIf_setRelay_siteSeconds, State.relayOn, onlyIf_setRelay_get]
  by_cases hr : r = rAux2
  · subst hr
    simp [hne, State.relayOn]
  · simp [hr]

/-! ## RELAYS ON and RELAYS OFF (R26) -/

/-- The frame of RELAYS ON (`on`) or RELAYS OFF. -/
def relaysFrame (on : Bool) (tag : Byte) (p : List Byte) : Frame := ⟨if on then 0x23#8 else 0x24#8, tag, p⟩

theorem relaysFrame_command (on : Bool) (tag : Byte) (p : List Byte) :
    (relaysFrame on tag p).command = if on then .relaysOn tag p else .relaysOff tag p := by
  cases on <;> rfl

theorem relaysFrame_known (on : Bool) (tag : Byte) (p : List Byte) : kindKnown (relaysFrame on tag p).kind = true := by
  cases on <;> rfl

theorem request_relaysFrame (on : Bool) (tag : Byte) (p : List Byte) (w : Work) :
    request (relaysFrame on tag p).kind (relaysFrame on tag p).payload w = reqRelays on p w := by
  cases on <;> rfl

/-- What RELAYS ON and RELAYS OFF refuse alike is refused by both, and nothing else follows. -/
theorem exec_relays_refused {s : State} (hr : s.ready = true) (tag : Byte) {p : List Byte} {r : RefusalReason} {d : Nat}
    (h : ∀ on w, reqRelays on p w = refused r w d) :
    exec (.relaysOn tag p) s = .next (s.heard.answered 0x23#8 tag (.refuse r d)) ∧
    exec (.relaysOff tag p) s = .next (s.heard.answered 0x24#8 tag (.refuse r d)) := by
  have hrun := fun on => exec_refused (relaysFrame on tag p) s hr (relaysFrame_known on tag p) r d
    ((request_relaysFrame on tag p _).trans (h on _))
  simp only [relaysFrame_command] at hrun
  exact ⟨hrun true, hrun false⟩

theorem reqRelays_badLength {p : List Byte} (hp : p.length ≠ 2) (on : Bool) (w : Work) :
    reqRelays on p w = refused .badLength w := by
  simp [reqRelays, hp]

/-- R26: with a mask of two bytes, BAD_SUBJECT comes before NOT_OWNER, and that before the drive. -/
theorem reqRelays_badSubject {m : Nat} (hm : m < 65536) (hbad : 16384 ≤ m) (on : Bool) (w : Work) :
    reqRelays on (bytes2 m) w = refused .badSubject w := by
  have hlen : (bytes2 m).length = 2 := rfl
  simp [reqRelays, hlen, wordAt_bytes2 hm, maskNames_noRelay hm, hbad]

theorem reqRelays_notOwner {m k : Nat} (hlt : m < 16384) (hown : lowestOwned m = some k) (on : Bool) (w : Work) :
    reqRelays on (bytes2 m) w = refused .notOwner w k := by
  have hlen : (bytes2 m).length = 2 := rfl
  have hm : m < 65536 := by omega
  simp [reqRelays, hlen, wordAt_bytes2 hm, maskNames_noRelay hm, Nat.not_le.mpr hlt, hown]

theorem reqRelays_driven {m : Nat} (hlt : m < 16384) (hown : lowestOwned m = none) (on : Bool) (w : Work) :
    reqRelays on (bytes2 m) w = carriedOut (driveAux m on w) fun s => .relays s.relays := by
  have hlen : (bytes2 m).length = 2 := rfl
  have hm : m < 65536 := by omega
  simp [reqRelays, hlen, wordAt_bytes2 hm, maskNames_noRelay hm, Nat.not_le.mpr hlt, hown]

/-- R26: a drive raises nothing, so the reply has the relays as the drive leaves them. -/
theorem carriedOut_driveAux (m : Nat) (on : Bool) (s : State) :
    carriedOut (driveAux m on ⟨s, []⟩) (fun t => .relays t.relays) =
      (⟨{ s with relays := (driveAux m on ⟨s, []⟩).relays }, []⟩, .accept (.relays (driveAux m on ⟨s, []⟩).relays)) := by
  have hcalm : (driveAux m on ⟨s, []⟩).agenda = [] := by rw [driveAux_frame]
  rw [carriedOut, settleAll_calm hcalm]
  exact congrArg (·, _) (driveAux_frame m on ⟨s, []⟩)

/-- Settles O19: each refusal by the order of R26, and the drive by the records of the two AUX relays. -/
theorem auxRelaysDriven : Obligations.AuxRelaysDriven := by
  unfold Obligations.AuxRelaysDriven
  intro s tag m p hr hm
  refine ⟨?badLength, ?badSubject, ?driven, ?notOwner⟩
  case badLength => exact fun hp => exec_relays_refused hr tag (reqRelays_badLength hp)
  case badSubject => exact fun hbad => exec_relays_refused hr tag (reqRelays_badSubject hm hbad)
  case driven =>
    intro hlt hown on
    refine ⟨(driveAux m on ⟨s.heard, []⟩).relays, ?_, ?_⟩
    · rw [← relaysFrame_command]
      refine exec_known_calm (relaysFrame on tag (bytes2 m)) s hr (relaysFrame_known on tag _) _ _ ?_
      rw [request_relaysFrame, reqRelays_driven hlt (lowestOwned_eq_none hown)]
      exact carriedOut_driveAux m on s.heard
    · intro r
      rw [driveAux_get, heard_siteSeconds]
      refine if_congr (and_congr_right fun hnamed => ?_) rfl rfl
      rcases hnamed with ⟨rfl, _⟩ | ⟨rfl, _⟩ <;> rw [heard_relayOn (by decide) (by decide) (by decide)]
  case notOwner =>
    intro k hk hlt hbit hlow
    exact exec_relays_refused hr tag (reqRelays_notOwner hlt (lowestOwned_eq_some hk hbit hlow))

end Sys2Proof.Machine

/-! SUPPORT. SYNC STRING over the host link (R44): what a frame's arrival leaves of the strings and the operations, how a
payload byte names a string, and the work of the request on the state of that arrival. -/

namespace Sys2Proof.Machine

/-! ## What a hand of a condition leaves as it is (R147, R154) -/

/-- A state without what a point's move may change: the relays, the points and the log. -/
def State.besidePoints (s : State) : State :=
  { s with relays := Table.fill 14 ⟨false, 0⟩, points := Table.fill 41 Point.start, log := [] }

theorem setRelay_besidePoints (r : Fin 14) (on : Bool) (w : Work) :
    (setRelay r on w).besidePoints = w.besidePoints := by
  rw [setRelay_frame]
  rfl

theorem formSeverityRelays_besidePoints (w : Work) : (formSeverityRelays w).besidePoints = w.besidePoints := by
  unfold formSeverityRelays
  split
  · simp only [setRelay_besidePoints]
  · rfl

theorem movePoint_besidePoints (p : Fin 41) (st : PointState) (w : Work) :
    (movePoint p st w).besidePoints = w.besidePoints := by
  unfold movePoint
  rw [raise_toState, formSeverityRelays_besidePoints]
  rfl

/-- A point's move with its entry. -/
theorem movePoint_writeLog_besidePoints (p : Fin 41) (st : PointState) (k : LogKind) (n : Nat) (o : Origin)
    (d : Option Int) (w : Work) : (movePoint p st (writeLog k n o d w)).besidePoints = w.besidePoints :=
  movePoint_besidePoints p st (writeLog k n o d w)

theorem conditionRose_besidePoints (p : Fin 41) (o : Origin) (d : Option Int) (w : Work) :
    (conditionRose p o d w).besidePoints = w.besidePoints := by
  have hactive : (activate p w).besidePoints = w.besidePoints := rfl
  unfold conditionRose
  dsimp only
  split
  · exact hactive
  · split
    · exact (movePoint_writeLog_besidePoints ..).trans hactive
    · exact (movePoint_writeLog_besidePoints ..).trans hactive
    · exact hactive
    · exact hactive

theorem conditionFell_besidePoints (p : Fin 41) (d : Option Int) (w : Work) :
    (conditionFell p d w).besidePoints = w.besidePoints := by
  unfold conditionFell
  split
  · rfl
  · split
    · split <;> exact movePoint_writeLog_besidePoints ..
    · exact movePoint_writeLog_besidePoints ..
    · rfl
    · rfl

theorem handCondition_besidePoints (p : Fin 41) (raw : Bool) (d : Int) (w : Work) :
    (handCondition p raw d w).besidePoints = w.besidePoints := by
  unfold handCondition
  dsimp only
  split
  · rfl
  · split
    · rfl
    · split
      · exact conditionRose_besidePoints p .part (some d) _
      · exact conditionFell_besidePoints p (some d) _

/-! ## What an arrival leaves of the strings and the operations (R160, R162) -/

/-- R160, R162: beside the relays, the points and the log, an arrival writes the mode alone. -/
theorem frameArrival_besidePoints (w : Work) : { (frameArrival w).besidePoints with mode := w.mode } = w.besidePoints := by
  unfold frameArrival
  split
  · exact congrArg (fun t : State => { t with mode := w.mode })
      (handCondition_besidePoints pHostSilent false 0 (changeMode .attended .host w))
  · rfl

@[simp] theorem heard_settings (s : State) : s.heard.settings = s.settings := by
  have := congrArg State.settings (frameArrival_besidePoints (countFrame ⟨s, []⟩)); exact this

@[simp] theorem heard_strings (s : State) : s.heard.strings = s.strings := by
  have := congrArg State.strings (frameArrival_besidePoints (countFrame ⟨s, []⟩)); exact this

@[simp] theorem heard_slots (s : State) : s.heard.slots = s.slots := by
  have := congrArg State.slots (frameArrival_besidePoints (countFrame ⟨s, []⟩)); exact this

@[simp] theorem heard_enrolled (s : State) (n : Fin 4) : s.heard.enrolled n = s.enrolled n := by
  simp [State.enrolled]

@[simp] theorem heard_occupied (s : State) (k : Fin 4) : s.heard.occupied k = s.occupied k := by
  simp [State.occupied]

/-- R31: no relay of a target is a severity relay, so the arrival leaves each string's service as it is. -/
@[simp] theorem heard_inService (s : State) (n : Fin 4) : s.heard.inService n = s.inService n := by
  obtain ⟨_, _, _, _, hcrit, hmaj, hmin, _, _⟩ := rTarget_ne (stringTarget n)
  simp [State.inService, State.active, heard_relayOn hcrit hmaj hmin]

/-! ## The string that a payload byte names -/

theorem indexOf_eq_none {n v : Nat} (h : v = 0 ∨ n < v) : indexOf n v = none := dif_neg (by omega)

@[simp] theorem indexOf_val_succ {k : Nat} (n : Fin k) : indexOf k (n.val + 1) = some n := by
  have hn : 1 ≤ n.val + 1 ∧ n.val + 1 ≤ k := by omega
  simp [indexOf, hn]

theorem byteAt_ofNat {v : Nat} (hv : v < 256) : byteAt [BitVec.ofNat 8 v] 0 = v := by
  simpa [byteAt] using hv

/-! ## The request and its work (R44) -/

theorem syncString_command (tag : Byte) (p : List Byte) : (⟨0x2D#8, tag, p⟩ : Frame).command = .syncString tag p := rfl

theorem request_syncString (p : List Byte) (w : Work) : request 0x2D#8 p w = reqSyncString p w := rfl

theorem reqSyncString_badLength {p : List Byte} (hp : p.length ≠ 1) (w : Work) :
    reqSyncString p w = refused .badLength w := by
  simp [reqSyncString, hp]

theorem reqSyncString_badSubject {v : Nat} (hv : v < 256) (hbad : v = 0 ∨ 4 < v) (w : Work) :
    reqSyncString [BitVec.ofNat 8 v] w = refused .badSubject w := by
  simp [reqSyncString, byteAt_ofNat hv, indexOf_eq_none hbad]

/-- R44 steps 3 to 5: with an index in range, the service is looked at before the test slot. -/
theorem reqSyncString_named (n : Fin 4) (w : Work) : reqSyncString [BitVec.ofNat 8 (n.val + 1)] w =
    if w.inService n = false then refused .state w 1
    else if w.occupied sTest then refused .state w 2
    else carriedOut (syncWork n w) fun s => .string (s.stringReply n) := by
  have hn : n.val + 1 < 256 := by omega
  simp [reqSyncString, byteAt_ofNat hn]

/-- R31: whether a string is in service reads nothing that a synchronisation writes. -/
@[simp] theorem syncWork_inService (n m : Fin 4) (w : Work) : (syncWork n w).inService m = w.inService m := by
  have hfault : ((syncWork n w).strings.get m).fault = (w.strings.get m).fault := by
    simp only [syncWork, writeLog_strings, Table.get_modify]
    split <;> rfl
  simp only [State.inService, hfault]
  rfl

theorem syncWork_stringReply (n : Fin 4) (w : Work) : (syncWork n w).stringReply n =
    ⟨n, w.enrolled n, w.inService n, stringSetting w.settings n 1, synchronised (w.strings.get n)⟩ := by
  have hget : (syncWork n w).strings.get n = synchronised (w.strings.get n) :=
    Table.get_modify_same w.strings n synchronised
  rw [State.stringReply, syncWork_inService, hget]
  rfl

/-- R44: a synchronisation raises nothing, so the reply has the string as it leaves it. -/
theorem carriedOut_syncWork (n : Fin 4) (s : State) :
    carriedOut (syncWork n ⟨s, []⟩) (fun t => .string (t.stringReply n)) =
      (⟨{ s with
          strings := s.strings.set n (synchronised (s.strings.get n))
          log := logAppend s.log s.siteSeconds .sync (n.val + 1) .host (some ((s.strings.get n).soc : Int)) }, []⟩,
        .accept (.string ⟨n, s.enrolled n, s.inService n, stringSetting s.settings n 1,
          synchronised (s.strings.get n)⟩)) := by
  have hcalm : (syncWork n ⟨s, []⟩).agenda = [] := rfl
  rw [carriedOut, settleAll_calm hcalm]
  exact congrArg (fun r => (syncWork n ⟨s, []⟩, Answer.accept (.string r))) (syncWork_stringReply n ⟨s, []⟩)

/-- Settles O36: each refusal in the order of R44, and the synchronised string on the state that the arrival leaves. -/
theorem stringSynchronised : Obligations.StringSynchronised := by
  unfold Obligations.StringSynchronised
  intro s tag n p v hr
  simp only [← syncString_command]
  refine ⟨?badLength, ?badSubject, ?named⟩
  case badLength => exact fun hp => exec_refused _ s hr rfl _ _ (reqSyncString_badLength hp _)
  case badSubject => exact fun hv hbad => exec_refused _ s hr rfl _ _ (reqSyncString_badSubject hv hbad _)
  case named =>
    have hreq := (request_syncString _ _).trans (reqSyncString_named n ⟨s.heard, []⟩)
    simp only [heard_inService, heard_occupied] at hreq
    split
    case isTrue hout =>
      rw [if_pos hout] at hreq
      exact exec_refused _ s hr rfl _ _ hreq
    case isFalse hin =>
      rw [if_neg hin] at hreq
      split
      case isTrue htest =>
        rw [if_pos htest] at hreq
        exact exec_refused _ s hr rfl _ _ hreq
      case isFalse hfree =>
        rw [if_neg hfree, carriedOut_syncWork] at hreq
        rw [exec_known_calm _ s hr rfl _ _ hreq]
        simp only [heard_settings, heard_strings, heard_enrolled, heard_inService, heard_siteSeconds,
          (Bool.not_eq_false _).mp hin, synchronised]

end Sys2Proof.Machine

/-! SUPPORT. PROVE over the host link (R153): why a move to RAISED or LATCHED makes no block act, a point's activation with
the move that it may make, and what the request changes. -/

namespace Sys2Proof.Machine

/-! ## No block acts on a point that comes to stand in RAISED or LATCHED (R104, R123) -/

/-- R104, R123: the lockout exit waits for NORMAL and the thermal release for NORMAL or HELD. -/
theorem pointActs_standing {p : Fin 41} {w : Work}
    (h : (w.points.get p).state = .raised ∨ (w.points.get p).state = .latched) : pointActs p w = w := by
  have hnormal : (w.points.get p).state ≠ .normal := by rcases h with h | h <;> simp [h]
  unfold pointActs
  split
  case isTrue hfail =>
    have hcauses : w.standingCauses.none = false := by
      rcases hfail with rfl | rfl | rfl <;> simp [State.standingCauses, LockoutCauses.none, hnormal]
    simp [checkLockout, hcauses]
  case isFalse =>
    split
    case h_1 n hfind =>
      have hp : p = pStringThermal n := by simpa using List.find?_some hfind
      have hhot : w.thermalReleased n = false := by
        rw [State.thermalReleased, ← hp]
        rcases h with h | h <;> simp [h]
      simp [releaseThermal, hhot]
    case h_2 => rfl

/-- The move of a point that stands in RAISED or LATCHED after it is taken without a consequence. -/
theorem settleAll_pointMoved {p : Fin 41} {w : Work} (hagenda : w.agenda = [.pointMoved p])
    (h : (w.points.get p).state = .raised ∨ (w.points.get p).state = .latched) :
    settleAll w = { w with agenda := [] } := by
  have hfuel : settleFuel = 998 + 1 + 1 := rfl
  have hacts : handle (.pointMoved p) { w with agenda := [] } = { w with agenda := [] } :=
    pointActs_standing (w := { w with agenda := [] }) h
  simp [settleAll, hfuel, settle, hagenda, hacts]

/-! ## A point's activation and its move (R145, R148) -/

/-- R145: a point's record after one activation at second `now`. -/
def Point.activated (x : Point) (now : Nat) : Point :=
  { x with count := min 255 (x.count + 1), first := if x.count = 0 then now else x.first, last := now }

/-- R148, R150: a point's record after its move to `st`, with the escalation timer of an entry to RAISED at `ms`. -/
def Point.movedTo (x : Point) (st : PointState) (timer : Option Timer) (ms : Nat) : Point :=
  { x with
    state := st, escalated := false
    timer := if st == .raised then timer else none
    raisedAt := if st == .raised then ms else x.raisedAt }

theorem activate_points (p : Fin 41) (w : Work) :
    (activate p w).points = w.points.set p ((w.points.get p).activated w.siteSeconds) := rfl

theorem movePoint_points (p : Fin 41) (st : PointState) (w : Work) : (movePoint p st w).points =
    w.points.set p ((w.points.get p).movedTo st (w.escalationTimer p) w.ms) := by
  simp only [movePoint, raise_toState, formSeverityRelays_points, Point.movedTo]

/-- R154: only the severity relays are formed from the points. -/
theorem formSeverityRelays_otherRelaysAs (w : Work) : (formSeverityRelays w).otherRelaysAs w.toState := by
  intro r hcrit hmaj hmin
  unfold formSeverityRelays
  split
  · simp [setRelay_get, hcrit, hmaj, hmin]
  · rfl

/-- An activation of point `p` and, when `moves`, its ALARM_RAISED entry and its move to `st`: what a condition that rises
and a momentary condition have in common (R148). -/
def activation (p : Fin 41) (o : Origin) (d : Option Int) (st : PointState) (moves : Bool) (w : Work) : Work :=
  if moves then movePoint p st (writeLog .alarmRaised (p.val + 1) o d (activate p w)) else activate p w

theorem momentary_eq_activation (p : Fin 41) (o : Origin) (d : Int) (w : Work) :
    momentary p o d w = activation p o (some d) .latched (!w.masked p) w := by
  have hmask : (activate p w).masked p = w.masked p := rfl
  unfold momentary activation
  cases hm : w.masked p <;> simp [hmask, hm]

theorem conditionRose_eq_activation (p : Fin 41) (o : Origin) (d : Option Int) (w : Work) : conditionRose p o d w =
    activation p o d .raised
      (!w.masked p && ((w.points.get p).state == .normal || (w.points.get p).state == .latched)) w := by
  have hmask : (activate p w).masked p = w.masked p := rfl
  have hstate : ((activate p w).points.get p).state = (w.points.get p).state := by
    rw [activate_points, Table.get_set_same]; rfl
  unfold conditionRose activation
  cases hm : w.masked p <;> cases hs : (w.points.get p).state <;> simp [hmask, hstate, hm, hs]

section
variable (p : Fin 41) (o : Origin) (d : Option Int) (st : PointState) (moves : Bool) (w : Work)

theorem activation_get_same : (activation p o d st moves w).points.get p =
    if moves then ((w.points.get p).activated w.siteSeconds).movedTo st (w.escalationTimer p) w.ms
    else (w.points.get p).activated w.siteSeconds := by
  unfold activation
  split
  · simp only [movePoint_points, writeLog_points, activate_points, Table.get_set_same]
    rfl
  · simp only [activate_points, Table.get_set_same]

theorem activation_get_ne {q : Fin 41} (h : q ≠ p) :
    (activation p o d st moves w).points.get q = w.points.get q := by
  unfold activation
  split
  · simp only [movePoint_points, writeLog_points, activate_points, Table.get_set_ne _ h]
  · simp only [activate_points, Table.get_set_ne _ h]

theorem activation_log : (activation p o d st moves w).log =
    if moves then logAppend w.log w.siteSeconds .alarmRaised (p.val + 1) o d else w.log := by
  unfold activation
  split
  · rw [movePoint_log, writeLog_log]
    rfl
  · rfl

theorem activation_besidePoints : (activation p o d st moves w).besidePoints = w.besidePoints := by
  unfold activation
  split
  · exact movePoint_writeLog_besidePoints ..
  · rfl

theorem activation_otherRelaysAs : (activation p o d st moves w).otherRelaysAs w.toState := by
  unfold activation
  split
  · exact formSeverityRelays_otherRelaysAs _
  · exact fun _ _ _ _ => rfl

theorem settleAll_activation (hst : st = .raised ∨ st = .latched) (hw : w.agenda = []) :
    settleAll (activation p o d st moves w) = { activation p o d st moves w with agenda := [] } := by
  cases moves
  case false =>
    have hcalm : (activation p o d st false w).agenda = [] := hw
    rw [settleAll_calm hcalm, ← hcalm]
  case true =>
    refine settleAll_pointMoved (p := p) ?_ ?_
    · show (movePoint p st _).agenda = _
      rw [movePoint_agenda, writeLog_agenda]
      exact congrArg (· ++ [Event.pointMoved p]) hw
    · rw [activation_get_same]
      exact hst

end

/-! ## What PROVE does to its point (R153) -/

/-- R153: PROVE moves point `p`: it is not masked and it is an event point, or its condition rises in NORMAL or LATCHED. -/
def State.proofMoves (s : State) (p : Fin 41) : Bool :=
  !s.masked p && (isEventPoint p || (!(s.points.get p).effective &&
    ((s.points.get p).state == .normal || (s.points.get p).state == .latched)))

/-- R153: the proof marker of point `p` is set. -/
def markProof (p : Fin 41) (w : Work) : Work :=
  { w with points := w.points.set p { w.points.get p with proof := true } }

theorem markProof_get_same (p : Fin 41) (w : Work) :
    (markProof p w).points.get p = { w.points.get p with proof := true } := Table.get_set_same ..

theorem markProof_get_ne {p q : Fin 41} (h : q ≠ p) (w : Work) : (markProof p w).points.get q = w.points.get q :=
  Table.get_set_ne _ h _

theorem provePoint_event {p : Fin 41} (hp : isEventPoint p = true) (w : Work) :
    provePoint p w = activation p .prove (some 0) .latched (w.proofMoves p) w := by
  rw [provePoint, if_pos hp, momentary_eq_activation]
  simp [State.proofMoves, hp]

theorem provePoint_effective {p : Fin 41} {w : Work} (hp : isEventPoint p = false)
    (he : (w.points.get p).effective = true) : provePoint p w = markProof p w := by
  simp [provePoint, hp, he, markProof]

theorem provePoint_rises {p : Fin 41} {w : Work} (hp : isEventPoint p = false)
    (he : (w.points.get p).effective = false) :
    provePoint p w = activation p .prove (some 0) .raised (w.proofMoves p) (markProof p w) := by
  have hmask : (markProof p w).masked p = w.masked p := rfl
  have hrose : provePoint p w = conditionRose p .prove (some 0) (markProof p w) := by
    simp [provePoint, hp, he, markProof]
  rw [hrose, conditionRose_eq_activation, hmask, markProof_get_same]
  simp [State.proofMoves, hp, he]

/-- R153: a proof is one activation of an event point, a marker that is set where the condition stood already, or a marker
and one activation. -/
theorem provePoint_cases {Q : Work → Prop} (p : Fin 41) (w : Work)
    (event : isEventPoint p = true → Q (activation p .prove (some 0) .latched (w.proofMoves p) w))
    (stood : isEventPoint p = false → (w.points.get p).effective = true → w.proofMoves p = false → Q (markProof p w))
    (rose : isEventPoint p = false → (w.points.get p).effective = false →
      Q (activation p .prove (some 0) .raised (w.proofMoves p) (markProof p w))) : Q (provePoint p w) := by
  cases hp : isEventPoint p
  case true =>
    rw [provePoint_event hp]
    exact event hp
  case false =>
    cases he : (w.points.get p).effective
    case false =>
      rw [provePoint_rises hp he]
      exact rose hp he
    case true =>
      rw [provePoint_effective hp he]
      exact stood hp he (by simp [State.proofMoves, hp, he])

theorem provePoint_get_ne {p q : Fin 41} (h : q ≠ p) (w : Work) : (provePoint p w).points.get q = w.points.get q :=
  provePoint_cases (Q := fun v => v.points.get q = w.points.get q) p w
    (fun _ => activation_get_ne _ _ _ _ _ _ h)
    (fun _ _ _ => markProof_get_ne h w)
    (fun _ _ => (activation_get_ne _ _ _ _ _ _ h).trans (markProof_get_ne h w))

theorem provePoint_log (p : Fin 41) (w : Work) : (provePoint p w).log =
    if w.proofMoves p then logAppend w.log w.siteSeconds .alarmRaised (p.val + 1) .prove (some 0) else w.log :=
  provePoint_cases (Q := fun v => v.log = _) p w
    (fun _ => activation_log ..)
    (fun _ _ hstays => by simp [hstays, markProof])
    (fun _ _ => activation_log _ _ _ _ _ (markProof p w))

theorem provePoint_besidePoints (p : Fin 41) (w : Work) : (provePoint p w).besidePoints = w.besidePoints :=
  provePoint_cases (Q := fun v => v.besidePoints = w.besidePoints) p w
    (fun _ => activation_besidePoints ..)
    (fun _ _ _ => rfl)
    (fun _ _ => activation_besidePoints _ _ _ _ _ (markProof p w))

theorem provePoint_otherRelaysAs (p : Fin 41) (w : Work) : (provePoint p w).otherRelaysAs w.toState :=
  provePoint_cases (Q := fun v => v.otherRelaysAs w.toState) p w
    (fun _ => activation_otherRelaysAs _ _ _ _ _ w)
    (fun _ _ _ _ _ _ _ => rfl)
    (fun _ _ => activation_otherRelaysAs _ _ _ _ _ (markProof p w))

theorem settleAll_provePoint (p : Fin 41) (s : State) :
    settleAll (provePoint p ⟨s, []⟩) = { provePoint p ⟨s, []⟩ with agenda := [] } :=
  provePoint_cases (Q := fun v => settleAll v = { v with agenda := [] }) p ⟨s, []⟩
    (fun _ => settleAll_activation _ _ _ _ _ _ (.inr rfl) rfl)
    (fun _ _ _ => settleAll_calm rfl)
    (fun _ _ => settleAll_activation _ _ _ _ _ _ (.inl rfl) rfl)

/-- R153: an event point's record after its momentary condition. -/
theorem provePoint_get_event {p : Fin 41} (hp : isEventPoint p = true) (w : Work) :
    (provePoint p w).points.get p = w.latchedPoint p := by
  have hmoves : w.proofMoves p = !w.masked p := by simp [State.proofMoves, hp]
  rw [provePoint_event hp, activation_get_same, hmoves]
  cases hm : w.masked p <;> simp [State.latchedPoint, Point.movedTo, Point.activated, hm]

theorem provePoint_get_rises {p : Fin 41} {w : Work} (hp : isEventPoint p = false)
    (he : (w.points.get p).effective = false) : (provePoint p w).points.get p =
      let x := ({ w.points.get p with proof := true } : Point).activated w.siteSeconds
      if w.proofMoves p then x.movedTo .raised (w.escalationTimer p) w.ms else x := by
  rw [provePoint_rises hp he, activation_get_same, markProof_get_same]
  rfl

/-! ## The request (R153) -/

/-- A state that differs from another in its points, its relays and its log alone is that state with these put back. -/
theorem eq_of_besidePoints {s t : State} (h : s.besidePoints = t.besidePoints) :
    { s with points := t.points, relays := t.relays, log := t.log } = t :=
  congrArg (fun x : State => { x with points := t.points, relays := t.relays, log := t.log }) h

@[simp] theorem heard_setting (s : State) (id : Nat) : s.heard.setting id = s.setting id :=
  congrArg (getSetting · id) (heard_settings s)

@[simp] theorem heard_masked (s : State) (p : Fin 41) : s.heard.masked p = s.masked p := by
  simp only [State.masked, heard_setting]

@[simp] theorem heard_ms (s : State) : s.heard.ms = s.ms := frameArrival_ms (countFrame ⟨s, []⟩)

@[simp] theorem heard_escalationTimer (s : State) (p : Fin 41) : s.heard.escalationTimer p = s.escalationTimer p := by
  unfold State.escalationTimer State.severity State.timerS State.timerMs State.setting
  rw [heard_settings, heard_ms]

theorem request_prove (p : List Byte) (w : Work) : request 0x29#8 p w = reqProve p w := rfl

theorem reqProve_badLength {p : List Byte} (hp : p.length ≠ 1) (w : Work) : reqProve p w = refused .badLength w := by
  simp [reqProve, hp]

theorem reqProve_badSubject {v : Nat} (hv : v < 256) (hbad : v = 0 ∨ 41 < v) (w : Work) :
    reqProve [BitVec.ofNat 8 v] w = refused .badSubject w := by
  simp [reqProve, byteAt_ofNat hv, indexOf_eq_none hbad]

/-- R153: no block acts on the point that is proved, so the request leaves what the proof alone made. -/
theorem reqProve_named (p : Fin 41) (s : State) : reqProve [BitVec.ofNat 8 (p.val + 1)] ⟨s, []⟩ =
    (⟨(provePoint p ⟨s, []⟩).toState, []⟩, .accept .empty) := by
  have hp : p.val + 1 < 256 := by omega
  simp [reqProve, byteAt_ofNat hp, carriedOut, settleAll_provePoint]

/-- PROVE of point `p` taken at once: its acceptance is in flight, on the state that the proof leaves. -/
theorem exec_prove_named {s : State} (hr : s.ready = true) (tag : Byte) (p : Fin 41) :
    exec (.prove tag [BitVec.ofNat 8 (p.val + 1)]) s =
      .next ((provePoint p ⟨s.heard, []⟩).toState.answered 0x29#8 tag (.accept .empty)) :=
  exec_known_calm ⟨0x29#8, tag, [BitVec.ofNat 8 (p.val + 1)]⟩ s hr rfl _ _
    ((request_prove _ _).trans (reqProve_named p s.heard))

/-- Settles O27: each refusal by the order of R153, and the proof of the point on the state that the arrival leaves. -/
theorem pointProved : Obligations.PointProved := by
  unfold Obligations.PointProved
  intro s tag p payload v hr
  refine ⟨?badLength, ?badSubject, ?named⟩
  case badLength =>
    intro hp
    exact exec_refused ⟨0x29#8, tag, payload⟩ s hr rfl _ _ ((request_prove _ _).trans (reqProve_badLength hp _))
  case badSubject =>
    intro hv hbad
    exact exec_refused ⟨0x29#8, tag, [BitVec.ofNat 8 v]⟩ s hr rfl _ _
      ((request_prove _ _).trans (reqProve_badSubject hv hbad _))
  case named =>
    intro old rises moves
    have hrises : rises = !(s.heard.points.get p).effective := rfl
    have hmoves : s.heard.proofMoves p = moves := by rw [State.proofMoves, heard_masked]; rfl
    have hbeside := provePoint_besidePoints p ⟨s.heard, []⟩
    have hlink : (provePoint p ⟨s.heard, []⟩).link = s.heard.link := by
      have := congrArg State.link hbeside; exact this
    refine ⟨_, exec_prove_named hr tag p, fun q hq => provePoint_get_ne hq ⟨s.heard, []⟩,
      fun hevent => provePoint_get_event hevent ⟨s.heard, []⟩, ?stood, ?rose, ?log,
      provePoint_otherRelaysAs p ⟨s.heard, []⟩, ⟨.empty, ?link⟩, ?frame⟩
    case stood =>
      intro hp hstood
      have he : (s.heard.points.get p).effective = true := by simpa [hrises] using hstood
      have hget := congrArg (·.points.get p) (provePoint_effective (w := ⟨s.heard, []⟩) hp he)
      exact hget.trans (markProof_get_same p ⟨s.heard, []⟩)
    case rose =>
      intro hp hrose
      have he : (s.heard.points.get p).effective = false := by simpa [hrises] using hrose
      have hget := provePoint_get_rises (w := ⟨s.heard, []⟩) hp he
      simp only [hmoves, heard_siteSeconds, heard_escalationTimer] at hget
      simp only [State.answered, hget]
      cases moves <;> exact ⟨rfl, rfl, rfl, rfl, rfl, rfl, rfl⟩
    case log =>
      have hlog := provePoint_log p ⟨s.heard, []⟩
      rwa [hmoves, heard_siteSeconds] at hlog
    case link => rw [State.answered, hlink]; rfl
    case frame =>
      have hback := eq_of_besidePoints hbeside
      rw [← hlink]
      exact hback

end Sys2Proof.Machine
